-- ==== Sys2Proof/Word.lean ====
section
/-! DEFINITION. The three word widths of the block: a byte of a frame, a 16-bit CRC or frame field, and
a 32-bit register (spec/00_scope.md R8, R10). -/

namespace Sys2Proof

/-- One byte of a frame, of the input buffer or of a command operand. -/
abbrev Byte := BitVec 8

/-- A 16-bit value: a CRC (R8, CRC_WIDTH = 16) or a two-byte frame field. -/
abbrev Half := BitVec 16

/-- A 32-bit register value or command word (R8, register width = 32). -/
abbrev Word := BitVec 32

end Sys2Proof
end

