-- ==== Sys2Proof/Config.lean ====
section
/-! DEFINITION. The parameters of the block (spec/00_scope.md R8, R9): the fixed ones with the values of
R8, and the one open parameter BASE, an opaque constant about which nothing can be proved. -/

namespace Sys2Proof.Config

/-- R8, CRC_POLY: x^16 + x^12 + x^5 + 1. -/
def crcPoly : Half := 0x1021

/-- R8, CRC_INIT: the value every `crc16` starts from. -/
def crcInit : Half := 0xFFFF

/-- R8, BUF_CAP: the bytes the input buffer holds. -/
def bufCap : Nat := 15

/-- R8, FRAME_LEN: the bytes of a response frame (spec/90_conflicts.md C2). -/
def frameLen : Nat := 15

/-- R8, START_BYTE: byte 0 of both frames. -/
def startByte : Byte := 0x0A

/-- R8, LEN_BYTE_NOMINAL: byte 1 of a response frame. No rule compares it (spec/41_frame.md R139). -/
def lenByteNominal : Byte := 0x0D

/-- R8, RESP_CRC_FIRST: the first response-frame offset its CRC covers. -/
def respCrcFirst : Nat := 2

/-- R8, RESP_CRC_LAST: the last response-frame offset its CRC covers. -/
def respCrcLast : Nat := 12

/-- R8, CMDFRAME_LEN: the bytes of the command frame. -/
def cmdFrameLen : Nat := 10

/-- R8, CMD_CRC_FIRST: the first command-frame offset its CRC covers (spec/90_conflicts.md C1). -/
def cmdCrcFirst : Nat := 0

/-- R8, CMD_CRC_LAST: the last command-frame offset its CRC covers. -/
def cmdCrcLast : Nat := 7

/-- R8, the size of the register window in bytes. -/
def windowSize : Nat := 0x80

/-- R9: the open parameter behind BASE, a free constant of the platform (log entry 5). -/
opaque baseSlot : Nat

/-- R9, BASE: the byte address of the register window, some multiple of 0x80. -/
def base : Nat := windowSize * baseSlot

/-- R27, CMDFRAME: the ten bytes of the continuous-ranging command frame, which no transaction, command
or reset changes. -/
def cmdFrame : List Byte := [0x0A, 0x24, 0x00, 0x00, 0x00, 0x00, 0x00, 0x00, 0x0F, 0x72]

end Sys2Proof.Config
end

