-- ==== Sys2Proof/Syntax.lean ====
section
/-! DEFINITION. The instruction set of the block: one constructor of `Instr` per row of
spec/opcode_table.json, the block's seven commands on their own (`Command`), the registers of the window,
and the raw form in which the host's list holds a transaction (`Entry`). -/

namespace Sys2Proof

/-- The direction of a host transaction (spec/30_encoding.md R84). -/
inductive Dir where
  | read
  | write
deriving DecidableEq, Repr

/-- The size of a host transaction (R84, R92). A 32-bit host never issues `eight`. -/
inductive AccessSize where
  | one
  | two
  | four
  | eight
deriving DecidableEq, Repr

/-- The source operand of CRC_RANGE, the bit SRC of the command word (R86). -/
inductive CrcSource where
  | buf
  | cmdFrame
deriving DecidableEq, Repr

/-- The registers of the window by name (spec/10_state.md R30). `reserved slot` is the register slot at
byte offset `4 * slot`, one that R30 lists as reserved. -/
inductive Register where
  | cmd
  | status
  | crc
  | count
  | buf0
  | buf1
  | buf2
  | buf3
  | dist
  | mag
  | ambient
  | precision
  | frameCrc
  | cmdframe0
  | cmdframe1
  | cmdframe2
  | reserved (slot : BitVec 5)
deriving DecidableEq, Repr

/-- A host transaction as the tuple of R84. `wdata` has a meaning for writes only. -/
structure Transaction where
  dir : Dir
  off : BitVec 7
  size : AccessSize
  wdata : Word
deriving DecidableEq, Repr

/-- The raw form of one transaction in the host's list, in the two formats of the opcode table: a
command word, carried by a 4-byte write to CMD (R84, R86), or a transaction descriptor with its separate
write value (R92). Log entry 2. -/
inductive Entry where
  | command (w : Word)
  | bus (d : BitVec 10) (wdata : Word)
deriving DecidableEq, Repr

/-- The seven commands of R87. -/
inductive Command where
  | nop
  | crcInit
  | crcByte (a : Byte)
  | crcRange (src : CrcSource) (a len : Byte)
  | bufClear
  | bufPush (a : Byte)
  | parse
deriving DecidableEq, Repr

/-- The rows of spec/opcode_table.json: the seven commands, a read and a write of each of the 32 register
slots, and the six BusError patterns. A BusError row keeps the two fields its pattern leaves open. -/
inductive Instr where
  | nop
  | crcInit
  | crcByte (a : Byte)
  | crcRange (src : CrcSource) (a len : Byte)
  | bufClear
  | bufPush (a : Byte)
  | parse
  | rdCmd
  | rdStatus
  | rdCrc
  | rdCount
  | rdBuf0
  | rdBuf1
  | rdBuf2
  | rdBuf3
  | rdDist
  | rdMag
  | rdAmbient
  | rdPrecision
  | rdFrameCrc
  | rdRsvd34
  | rdRsvd38
  | rdRsvd3C
  | rdCmdframe0
  | rdCmdframe1
  | rdCmdframe2
  | rdRsvd4C
  | rdRsvd50
  | rdRsvd54
  | rdRsvd58
  | rdRsvd5C
  | rdRsvd60
  | rdRsvd64
  | rdRsvd68
  | rdRsvd6C
  | rdRsvd70
  | rdRsvd74
  | rdRsvd78
  | rdRsvd7C
  | wrCmd (v : Word)
  | wrStatus (v : Word)
  | wrCrc (v : Word)
  | wrCount (v : Word)
  | wrBuf0 (v : Word)
  | wrBuf1 (v : Word)
  | wrBuf2 (v : Word)
  | wrBuf3 (v : Word)
  | wrDist (v : Word)
  | wrMag (v : Word)
  | wrAmbient (v : Word)
  | wrPrecision (v : Word)
  | wrFrameCrc (v : Word)
  | wrRsvd34 (v : Word)
  | wrRsvd38 (v : Word)
  | wrRsvd3C (v : Word)
  | wrCmdframe0 (v : Word)
  | wrCmdframe1 (v : Word)
  | wrCmdframe2 (v : Word)
  | wrRsvd4C (v : Word)
  | wrRsvd50 (v : Word)
  | wrRsvd54 (v : Word)
  | wrRsvd58 (v : Word)
  | wrRsvd5C (v : Word)
  | wrRsvd60 (v : Word)
  | wrRsvd64 (v : Word)
  | wrRsvd68 (v : Word)
  | wrRsvd6C (v : Word)
  | wrRsvd70 (v : Word)
  | wrRsvd74 (v : Word)
  | wrRsvd78 (v : Word)
  | wrRsvd7C (v : Word)
  | busErr1Byte (dir : Dir) (off : BitVec 7)
  | busErr2Byte (dir : Dir) (off : BitVec 7)
  | busErr8Byte (dir : Dir) (off : BitVec 7)
  | busErrOffLow1 (dir : Dir) (off : BitVec 7)
  | busErrOffLow2 (dir : Dir) (off : BitVec 7)
  | busErrOffLow3 (dir : Dir) (off : BitVec 7)
deriving DecidableEq, Repr

/-- A command as a row of the opcode table. -/
def Command.toInstr : Command → Instr
  | .nop => .nop
  | .crcInit => .crcInit
  | .crcByte a => .crcByte a
  | .crcRange src a len => .crcRange src a len
  | .bufClear => .bufClear
  | .bufPush a => .bufPush a
  | .parse => .parse

end Sys2Proof
end

