-- ==== Sys2Proof/WellFormed.lean ====
section
/-! DEFINITION. Which terms of `Instr` stand for an encoding. Every operand but one has exactly the width
of its field, so its type is its check; the offset of a BUSERR_OFFLOW row must have the two low bits
that the row's pattern fixes (spec/30_encoding.md R92). -/

namespace Sys2Proof

/-- The checks on the operands of an instruction: one for each of the three BUSERR_OFFLOW rows (R92). -/
def Instr.wellFormed : Instr → Bool
  | .nop => true
  | .crcInit => true
  | .crcByte _ => true
  | .crcRange _ _ _ => true
  | .bufClear => true
  | .bufPush _ => true
  | .parse => true
  | .rdCmd => true
  | .rdStatus => true
  | .rdCrc => true
  | .rdCount => true
  | .rdBuf0 => true
  | .rdBuf1 => true
  | .rdBuf2 => true
  | .rdBuf3 => true
  | .rdDist => true
  | .rdMag => true
  | .rdAmbient => true
  | .rdPrecision => true
  | .rdFrameCrc => true
  | .rdRsvd34 => true
  | .rdRsvd38 => true
  | .rdRsvd3C => true
  | .rdCmdframe0 => true
  | .rdCmdframe1 => true
  | .rdCmdframe2 => true
  | .rdRsvd4C => true
  | .rdRsvd50 => true
  | .rdRsvd54 => true
  | .rdRsvd58 => true
  | .rdRsvd5C => true
  | .rdRsvd60 => true
  | .rdRsvd64 => true
  | .rdRsvd68 => true
  | .rdRsvd6C => true
  | .rdRsvd70 => true
  | .rdRsvd74 => true
  | .rdRsvd78 => true
  | .rdRsvd7C => true
  | .wrCmd _ => true
  | .wrStatus _ => true
  | .wrCrc _ => true
  | .wrCount _ => true
  | .wrBuf0 _ => true
  | .wrBuf1 _ => true
  | .wrBuf2 _ => true
  | .wrBuf3 _ => true
  | .wrDist _ => true
  | .wrMag _ => true
  | .wrAmbient _ => true
  | .wrPrecision _ => true
  | .wrFrameCrc _ => true
  | .wrRsvd34 _ => true
  | .wrRsvd38 _ => true
  | .wrRsvd3C _ => true
  | .wrCmdframe0 _ => true
  | .wrCmdframe1 _ => true
  | .wrCmdframe2 _ => true
  | .wrRsvd4C _ => true
  | .wrRsvd50 _ => true
  | .wrRsvd54 _ => true
  | .wrRsvd58 _ => true
  | .wrRsvd5C _ => true
  | .wrRsvd60 _ => true
  | .wrRsvd64 _ => true
  | .wrRsvd68 _ => true
  | .wrRsvd6C _ => true
  | .wrRsvd70 _ => true
  | .wrRsvd74 _ => true
  | .wrRsvd78 _ => true
  | .wrRsvd7C _ => true
  | .busErr1Byte _ _ => true
  | .busErr2Byte _ _ => true
  | .busErr8Byte _ _ => true
  | .busErrOffLow1 _ off => off.extractLsb' 0 2 == 1
  | .busErrOffLow2 _ off => off.extractLsb' 0 2 == 2
  | .busErrOffLow3 _ off => off.extractLsb' 0 2 == 3

end Sys2Proof
end

