-- ==== Sys2Proof/Decode.lean ====
section
/-! DEFINITION. The decoder, from the encoding tables of spec/30_encoding.md, and after it the encoder.
The command decoder is R88: it goes through the rows of R87, and a word that matches no row is rejected by
name. The bus decoder is R92, total on the 1024 descriptors. -/

namespace Sys2Proof

/-! ### Fields -/

/-- R86, OP. -/
def fieldOp (w : Word) : BitVec 4 := w.extractLsb' 0 4

/-- R86, the bit SRC: 0 is BUF, 1 is CMDFRAME. -/
def fieldSrc (w : Word) : CrcSource := if w.getLsbD 4 then .cmdFrame else .buf

/-- R86, RSV0. -/
def fieldRsv0 (w : Word) : BitVec 3 := w.extractLsb' 5 3

/-- R86, A. -/
def fieldA (w : Word) : Byte := w.extractLsb' 8 8

/-- R86, LEN. -/
def fieldLen (w : Word) : Byte := w.extractLsb' 16 8

/-- R86, RSV1. -/
def fieldRsv1 (w : Word) : Byte := w.extractLsb' 24 8

/-- R92, the codes of SZ. -/
def AccessSize.code : AccessSize → BitVec 2
  | .one => 0
  | .two => 1
  | .four => 2
  | .eight => 3

/-- R92: the size a code of SZ stands for. -/
def AccessSize.ofCode (c : BitVec 2) : AccessSize :=
  match c.toNat with
  | 0 => .one
  | 1 => .two
  | 2 => .four
  | _ => .eight

/-- R84: the bytes a size stands for. -/
def AccessSize.bytes : AccessSize → Nat
  | .one => 1
  | .two => 2
  | .four => 4
  | .eight => 8

/-- R92, the bit W: 1 is a write. -/
def Dir.code : Dir → BitVec 1
  | .read => 0
  | .write => 1

/-- R92, SZ of a descriptor. -/
def descSize (d : BitVec 10) : AccessSize := .ofCode (d.extractLsb' 8 2)

/-- R92, W of a descriptor. -/
def descDir (d : BitVec 10) : Dir := if d.getLsbD 7 then .write else .read

/-- R92, OFF of a descriptor. -/
def descOff (d : BitVec 10) : BitVec 7 := d.extractLsb' 0 7

/-- R92: the descriptor `SZ << 8 | W << 7 | OFF` of a transaction. -/
def descriptor (size : AccessSize) (dir : Dir) (off : BitVec 7) : BitVec 10 :=
  (size.code.setWidth 10 <<< 8) ||| (dir.code.setWidth 10 <<< 7) ||| off.setWidth 10

/-- spec/20_memory.md R62: a transaction is performed only when its size is 4 bytes and its offset is a
multiple of 4. -/
def isPerformed (size : AccessSize) (off : BitVec 7) : Bool :=
  size == .four && off.toNat % 4 == 0

/-- The transaction of R84 that a raw entry stands for. A command word is a 4-byte write to CMD. -/
def Entry.transaction : Entry → Transaction
  | .command w => { dir := .write, off := 0x00, size := .four, wdata := w }
  | .bus d wdata => { dir := descDir d, off := descOff d, size := descSize d, wdata := wdata }

/-! ### The register map -/

/-- spec/10_state.md R30: the register at a 32-bit slot, that is at byte offset `4 * slot`. -/
def registerAt (slot : BitVec 5) : Register :=
  match slot.toNat with
  | 0x00 => .cmd
  | 0x01 => .status
  | 0x02 => .crc
  | 0x03 => .count
  | 0x04 => .buf0
  | 0x05 => .buf1
  | 0x06 => .buf2
  | 0x07 => .buf3
  | 0x08 => .dist
  | 0x09 => .mag
  | 0x0A => .ambient
  | 0x0B => .precision
  | 0x0C => .frameCrc
  | 0x10 => .cmdframe0
  | 0x11 => .cmdframe1
  | 0x12 => .cmdframe2
  | _ => .reserved slot

/-- R30: the slot of a register. -/
def Register.slot : Register → BitVec 5
  | .cmd => 0x00
  | .status => 0x01
  | .crc => 0x02
  | .count => 0x03
  | .buf0 => 0x04
  | .buf1 => 0x05
  | .buf2 => 0x06
  | .buf3 => 0x07
  | .dist => 0x08
  | .mag => 0x09
  | .ambient => 0x0A
  | .precision => 0x0B
  | .frameCrc => 0x0C
  | .cmdframe0 => 0x10
  | .cmdframe1 => 0x11
  | .cmdframe2 => 0x12
  | .reserved slot => slot

/-- R30, R61: the byte offset of a register, four times its slot. -/
def Register.offset (r : Register) : BitVec 7 := r.slot.setWidth 7 <<< 2

/-! ### Decoding -/

/-- Why a command word is illegal (R90). -/
inductive DecodeError where
  /-- OP is 0x7 to 0xF. -/
  | reservedOpcode
  /-- RSV0 or RSV1 is not 0. -/
  | reservedBits
  /-- A field that the OP does not use is not 0. -/
  | unusedField
deriving DecidableEq, Repr

/-- R90: the name under which an illegal word is rejected. All three set CMD_ERR and nothing else. -/
def illegalReason (w : Word) : DecodeError :=
  if fieldOp w ≥ 7 then .reservedOpcode
  else if fieldRsv0 w ≠ 0 ∨ fieldRsv1 w ≠ 0 then .reservedBits
  else .unusedField

/-- R87, R88: the command a word selects, the rows in the table's order. -/
def decodeCommand (w : Word) : Except DecodeError Command :=
  if w &&& 0xFFFFFFFF = 0x00000000 then .ok .nop
  else if w &&& 0xFFFFFFFF = 0x00000001 then .ok .crcInit
  else if w &&& 0xFFFF00FF = 0x00000002 then .ok (.crcByte (fieldA w))
  else if w &&& 0xFF0000EF = 0x00000003 then .ok (.crcRange (fieldSrc w) (fieldA w) (fieldLen w))
  else if w &&& 0xFFFFFFFF = 0x00000004 then .ok .bufClear
  else if w &&& 0xFFFF00FF = 0x00000005 then .ok (.bufPush (fieldA w))
  else if w &&& 0xFFFFFFFF = 0x00000006 then .ok .parse
  else .error (illegalReason w)

/-- R92: the row of a performed read of a slot. -/
def readRow (slot : BitVec 5) : Instr :=
  match slot.toNat with
  | 0x00 => .rdCmd
  | 0x01 => .rdStatus
  | 0x02 => .rdCrc
  | 0x03 => .rdCount
  | 0x04 => .rdBuf0
  | 0x05 => .rdBuf1
  | 0x06 => .rdBuf2
  | 0x07 => .rdBuf3
  | 0x08 => .rdDist
  | 0x09 => .rdMag
  | 0x0A => .rdAmbient
  | 0x0B => .rdPrecision
  | 0x0C => .rdFrameCrc
  | 0x0D => .rdRsvd34
  | 0x0E => .rdRsvd38
  | 0x0F => .rdRsvd3C
  | 0x10 => .rdCmdframe0
  | 0x11 => .rdCmdframe1
  | 0x12 => .rdCmdframe2
  | 0x13 => .rdRsvd4C
  | 0x14 => .rdRsvd50
  | 0x15 => .rdRsvd54
  | 0x16 => .rdRsvd58
  | 0x17 => .rdRsvd5C
  | 0x18 => .rdRsvd60
  | 0x19 => .rdRsvd64
  | 0x1A => .rdRsvd68
  | 0x1B => .rdRsvd6C
  | 0x1C => .rdRsvd70
  | 0x1D => .rdRsvd74
  | 0x1E => .rdRsvd78
  | _ => .rdRsvd7C

/-- R92: the row of a performed write of `v` to a slot. -/
def writeRow (slot : BitVec 5) (v : Word) : Instr :=
  match slot.toNat with
  | 0x00 => .wrCmd v
  | 0x01 => .wrStatus v
  | 0x02 => .wrCrc v
  | 0x03 => .wrCount v
  | 0x04 => .wrBuf0 v
  | 0x05 => .wrBuf1 v
  | 0x06 => .wrBuf2 v
  | 0x07 => .wrBuf3 v
  | 0x08 => .wrDist v
  | 0x09 => .wrMag v
  | 0x0A => .wrAmbient v
  | 0x0B => .wrPrecision v
  | 0x0C => .wrFrameCrc v
  | 0x0D => .wrRsvd34 v
  | 0x0E => .wrRsvd38 v
  | 0x0F => .wrRsvd3C v
  | 0x10 => .wrCmdframe0 v
  | 0x11 => .wrCmdframe1 v
  | 0x12 => .wrCmdframe2 v
  | 0x13 => .wrRsvd4C v
  | 0x14 => .wrRsvd50 v
  | 0x15 => .wrRsvd54 v
  | 0x16 => .wrRsvd58 v
  | 0x17 => .wrRsvd5C v
  | 0x18 => .wrRsvd60 v
  | 0x19 => .wrRsvd64 v
  | 0x1A => .wrRsvd68 v
  | 0x1B => .wrRsvd6C v
  | 0x1C => .wrRsvd70 v
  | 0x1D => .wrRsvd74 v
  | 0x1E => .wrRsvd78 v
  | _ => .wrRsvd7C v

/-- R92: the row a descriptor selects. The value `v` belongs to writes and is dropped elsewhere. -/
def decodeBus (d : BitVec 10) (v : Word) : Instr :=
  match descSize d with
  | .one => .busErr1Byte (descDir d) (descOff d)
  | .two => .busErr2Byte (descDir d) (descOff d)
  | .eight => .busErr8Byte (descDir d) (descOff d)
  | .four =>
    match ((descOff d).extractLsb' 0 2).toNat with
    | 1 => .busErrOffLow1 (descDir d) (descOff d)
    | 2 => .busErrOffLow2 (descDir d) (descOff d)
    | 3 => .busErrOffLow3 (descDir d) (descOff d)
    | _ =>
      match descDir d with
      | .read => readRow ((descOff d).extractLsb' 2 5)
      | .write => writeRow ((descOff d).extractLsb' 2 5) v

/-- The instruction of a raw entry: total, and an illegal command word is rejected by name. -/
def decode : Entry → Except DecodeError Instr
  | .command w => (decodeCommand w).map Command.toInstr
  | .bus d v => .ok (decodeBus d v)

/-! ### Encoding -/

/-- R86: the bit SRC. -/
def CrcSource.code : CrcSource → BitVec 1
  | .buf => 0
  | .cmdFrame => 1

/-- R115 to R117, R130 to R133: the command word of a command. -/
def encodeCommand : Command → Word
  | .nop => 0x00000000
  | .crcInit => 0x00000001
  | .crcByte a => 0x00000002#32 ||| (a.setWidth 32 <<< 8)
  | .crcRange src a len =>
    0x00000003#32 ||| (src.code.setWidth 32 <<< 4) ||| (a.setWidth 32 <<< 8) ||| (len.setWidth 32 <<< 16)
  | .bufClear => 0x00000004
  | .bufPush a => 0x00000005#32 ||| (a.setWidth 32 <<< 8)
  | .parse => 0x00000006

/-- The raw entry of an instruction: R86 for a command, R92 and spec/42_register_access.md for a bus
row. A row without a write value carries the value 0. -/
def encode : Instr → Entry
  | .nop => .command (encodeCommand .nop)
  | .crcInit => .command (encodeCommand .crcInit)
  | .crcByte a => .command (encodeCommand (.crcByte a))
  | .crcRange src a len => .command (encodeCommand (.crcRange src a len))
  | .bufClear => .command (encodeCommand .bufClear)
  | .bufPush a => .command (encodeCommand (.bufPush a))
  | .parse => .command (encodeCommand .parse)
  | .rdCmd => .bus 0x200 0
  | .rdStatus => .bus 0x204 0
  | .rdCrc => .bus 0x208 0
  | .rdCount => .bus 0x20C 0
  | .rdBuf0 => .bus 0x210 0
  | .rdBuf1 => .bus 0x214 0
  | .rdBuf2 => .bus 0x218 0
  | .rdBuf3 => .bus 0x21C 0
  | .rdDist => .bus 0x220 0
  | .rdMag => .bus 0x224 0
  | .rdAmbient => .bus 0x228 0
  | .rdPrecision => .bus 0x22C 0
  | .rdFrameCrc => .bus 0x230 0
  | .rdRsvd34 => .bus 0x234 0
  | .rdRsvd38 => .bus 0x238 0
  | .rdRsvd3C => .bus 0x23C 0
  | .rdCmdframe0 => .bus 0x240 0
  | .rdCmdframe1 => .bus 0x244 0
  | .rdCmdframe2 => .bus 0x248 0
  | .rdRsvd4C => .bus 0x24C 0
  | .rdRsvd50 => .bus 0x250 0
  | .rdRsvd54 => .bus 0x254 0
  | .rdRsvd58 => .bus 0x258 0
  | .rdRsvd5C => .bus 0x25C 0
  | .rdRsvd60 => .bus 0x260 0
  | .rdRsvd64 => .bus 0x264 0
  | .rdRsvd68 => .bus 0x268 0
  | .rdRsvd6C => .bus 0x26C 0
  | .rdRsvd70 => .bus 0x270 0
  | .rdRsvd74 => .bus 0x274 0
  | .rdRsvd78 => .bus 0x278 0
  | .rdRsvd7C => .bus 0x27C 0
  | .wrCmd v => .bus 0x280 v
  | .wrStatus v => .bus 0x284 v
  | .wrCrc v => .bus 0x288 v
  | .wrCount v => .bus 0x28C v
  | .wrBuf0 v => .bus 0x290 v
  | .wrBuf1 v => .bus 0x294 v
  | .wrBuf2 v => .bus 0x298 v
  | .wrBuf3 v => .bus 0x29C v
  | .wrDist v => .bus 0x2A0 v
  | .wrMag v => .bus 0x2A4 v
  | .wrAmbient v => .bus 0x2A8 v
  | .wrPrecision v => .bus 0x2AC v
  | .wrFrameCrc v => .bus 0x2B0 v
  | .wrRsvd34 v => .bus 0x2B4 v
  | .wrRsvd38 v => .bus 0x2B8 v
  | .wrRsvd3C v => .bus 0x2BC v
  | .wrCmdframe0 v => .bus 0x2C0 v
  | .wrCmdframe1 v => .bus 0x2C4 v
  | .wrCmdframe2 v => .bus 0x2C8 v
  | .wrRsvd4C v => .bus 0x2CC v
  | .wrRsvd50 v => .bus 0x2D0 v
  | .wrRsvd54 v => .bus 0x2D4 v
  | .wrRsvd58 v => .bus 0x2D8 v
  | .wrRsvd5C v => .bus 0x2DC v
  | .wrRsvd60 v => .bus 0x2E0 v
  | .wrRsvd64 v => .bus 0x2E4 v
  | .wrRsvd68 v => .bus 0x2E8 v
  | .wrRsvd6C v => .bus 0x2EC v
  | .wrRsvd70 v => .bus 0x2F0 v
  | .wrRsvd74 v => .bus 0x2F4 v
  | .wrRsvd78 v => .bus 0x2F8 v
  | .wrRsvd7C v => .bus 0x2FC v
  | .busErr1Byte dir off => .bus (descriptor .one dir off) 0
  | .busErr2Byte dir off => .bus (descriptor .two dir off) 0
  | .busErr8Byte dir off => .bus (descriptor .eight dir off) 0
  | .busErrOffLow1 dir off => .bus (descriptor .four dir off) 0
  | .busErrOffLow2 dir off => .bus (descriptor .four dir off) 0
  | .busErrOffLow3 dir off => .bus (descriptor .four dir off) 0

/-! ### Words numbered as spec/opcode_table.json numbers them -/

/-- The raw entry whose bits are `w`: a descriptor for rows of up to 16 bits (the table's format BUS), a
command word for rows of up to 32 bits (format CMD), and a descriptor followed by its write value beyond
that. A number that is no descriptor (R92 gives it ten bits) or no 32-bit word is refused. -/
def entryOfBits (nbits w : Nat) : Option Entry :=
  if nbits ≤ 16 then
    if w < 2 ^ 10 then some (.bus (BitVec.ofNat 10 w) 0) else none
  else if nbits ≤ 32 then
    if w < 2 ^ 32 then some (.command (BitVec.ofNat 32 w)) else none
  else if w % 2 ^ 16 < 2 ^ 10 ∧ w < 2 ^ 48 then
    some (.bus (BitVec.ofNat 10 (w % 2 ^ 16)) (BitVec.ofNat 32 (w / 2 ^ 16)))
  else none

/-- The instruction the decoder reads from an instruction whose bits are `w`, bit 0 the least significant
bit of the first word. -/
def decodeTableWord (nbits w : Nat) : Option Instr :=
  match entryOfBits nbits w with
  | some e => (decode e).toOption
  | none => none

/-! ### Host addresses -/

/-- spec/42_register_access.md, effective address: `BASE + off`. -/
def effectiveAddress (off : BitVec 7) : Nat := Config.base + off.toNat

/-- R60, R61: the window offset of a host address, or none for an address outside the window, which the
block does not decode. -/
def windowOffset (addr : Nat) : Option (BitVec 7) :=
  if Config.base ≤ addr ∧ addr < Config.base + Config.windowSize then
    some (BitVec.ofNat 7 (addr - Config.base))
  else none

/-- R60, R61: the raw entry of a host access at an address, or none where the access does not reach the
block. -/
def hostAccess (dir : Dir) (addr : Nat) (size : AccessSize) (wdata : Word) : Option Entry :=
  match windowOffset addr with
  | some off => some (.bus (descriptor size dir off) wdata)
  | none => none

end Sys2Proof
end

