-- ==== Sys2Proof/Machine/State.lean ====
section
/-! DEFINITION. The state of the machine as plain data: the block's own state elements (spec/10_state.md
R22 to R26), and around them the runner's: the host's list of transactions with its index (R21), the reset
events the platform gives the block (spec/70_reset_and_hazards.md R220), the value the last transaction
returned to the host, and the run's fault mark (R28, spec/60_exceptions.md R196). -/

namespace Sys2Proof.Machine

/-- R24, PRES: the result of the most recent PARSE, one name per code of spec/30_encoding.md R83. The codes
5 to 7 are never produced and are left out by this type (spec/93_implementation_defined.md U11). -/
inductive ParseResult where
  | none
  | ok
  | frameTooShort
  | badStartByte
  | checksumMismatch
deriving DecidableEq, Repr

/-- R25: the five sample fields, which an accepted PARSE writes together. -/
structure Sample where
  distMm : Half
  magnitude : Half
  magExp : Byte
  ambient : Byte
  precision : Half
deriving DecidableEq, Repr

/-- The block's state elements, R22 to R26. R28: there is no other. CMDFRAME (R27) is a constant,
`Config.cmdFrame`, and BUSY (R32) is hard-wired to 0 in `Block.status`. -/
structure Block where
  /-- R22, the CRC accumulator. -/
  crc : Half
  /-- R23, the number of valid bytes in the buffer, 0 to 15. -/
  count : BitVec 4
  /-- R23, the input buffer `BUF[0..14]`. -/
  buf : Vector Byte 15
  /-- R24, the result of the last PARSE. -/
  pres : ParseResult
  /-- R24, the sticky flag of a rejected command. -/
  cmdErr : Bool
  /-- R24, the sticky flag of a push the buffer could not hold. -/
  ovf : Bool
  /-- R25, the fields of the last accepted frame. -/
  sample : Sample
  /-- R26, the checksum the last checksum-checking PARSE computed. -/
  calcCrc : Half
  /-- R26, the checksum it read at offsets 13 and 14. -/
  recvCrc : Half
deriving DecidableEq, Repr

/-- R11: what `raise BusError(off, size, dir)` reports. -/
structure BusFault where
  off : BitVec 7
  size : AccessSize
  dir : Dir
deriving DecidableEq, Repr

/-- The whole machine: the block, and the runner that issues the host's transactions to it. -/
structure State where
  /-- The block's own state. -/
  block : Block
  /-- R84: the host's finite list of transactions. -/
  program : List Entry
  /-- R21: the index of the next transaction. A block reset leaves it alone. -/
  index : Nat
  /-- R220: the reset events still to come, each as the index of the transaction it comes before (log
  entry 4). -/
  resets : List Nat
  /-- R84: the value the last transaction returned to the host; none after a write, after a BusError and
  before the first transaction (log entry 3). -/
  response : Option Word
  /-- R28, R196: the run's fault mark, set by a BusError and never cleared (log entry 1). -/
  mark : Option BusFault
deriving DecidableEq, Repr

/-- Why a run is faulted. -/
inductive Fault where
  /-- Raised by `step` in a state whose run a BusError has marked (R196: the fault is final). Safe: the
  model stops where the spec makes no claim. -/
  | busError (off : BitVec 7) (size : AccessSize) (dir : Dir)
deriving DecidableEq, Repr

/-- Why the model has no step. -/
inductive Refusal where
  /-- An instruction without a meaning. No arm of `exec` raises it: every row has its meaning. Safe. -/
  | notModelled (mnemonic : String)
  /-- Raised by `step` when the index equals the list's length and no reset is due: R21, the run has ended.
  Safe: nothing happens in the block without a transaction (spec/00_scope.md R7). -/
  | runEnded
deriving DecidableEq, Repr

/-- R220: the reset value of every state element of the block. -/
def Block.reset : Block :=
  { crc := 0xFFFF
    count := 0
    buf := Vector.replicate 15 0x00
    pres := .none
    cmdErr := false
    ovf := false
    sample := { distMm := 0, magnitude := 0, magExp := 0, ambient := 0, precision := 0 }
    calcCrc := 0
    recvCrc := 0 }

/-- The machine right after reset: the block as R220 says, and a runner to which no program has been given
yet (log entry 6). -/
def State.reset : State :=
  { block := Block.reset
    program := []
    index := 0
    resets := []
    response := none
    mark := none }

end Sys2Proof.Machine
end

