-- ==== Sys2Proof/Machine/Operands.lean ====
section
/-! DEFINITION. The operand forms of the rules: big-endian pairs of bytes, words packed from bytes, ranges of
a byte string, the valid bytes of a CRC_RANGE source, and the fields of a response frame. -/

namespace Sys2Proof.Machine

/-- spec/00_scope.md R10: `u16(hi, lo)`, a 16-bit value from two bytes, the first the most significant. -/
def u16 (hi lo : Byte) : Half := (hi.setWidth 16 <<< 8) ||| lo.setWidth 16

/-- spec/10_state.md R35: the register word `w` of a byte string, the lowest index in the low byte. An
index beyond the string reads 0x00. -/
def packWord (bytes : List Byte) (w : Nat) : Word :=
  (bytes.getD (4 * w) 0).setWidth 32
    ||| ((bytes.getD (4 * w + 1) 0).setWidth 32 <<< 8)
    ||| ((bytes.getD (4 * w + 2) 0).setWidth 32 <<< 16)
    ||| ((bytes.getD (4 * w + 3) 0).setWidth 32 <<< 24)

/-- The bytes `d[first .. first+len-1]` of a byte string. -/
def range (d : List Byte) (first len : Nat) : List Byte := (d.drop first).take len

/-- spec/40_crc.md R117: the byte string a CRC_RANGE reads. -/
def Block.source (b : Block) : CrcSource → List Byte
  | .buf => b.buf.toList
  | .cmdFrame => Config.cmdFrame

/-- R117: the number of valid bytes of a source, COUNT for BUF and 10 for CMDFRAME. -/
def Block.sourceLimit (b : Block) : CrcSource → Nat
  | .buf => b.count.toNat
  | .cmdFrame => Config.cmdFrameLen

/-- spec/30_encoding.md R81, R82: the checksum a response frame carries at offsets 13 and 14. -/
def receivedCrc (f : Vector Byte 15) : Half := u16 f[13] f[14]

/-- R82: the sample fields of a response frame. -/
def extractSample (f : Vector Byte 15) : Sample :=
  { distMm := u16 f[5] f[6]
    magnitude := u16 f[7] f[8]
    magExp := f[9]
    ambient := f[10]
    precision := u16 f[11] f[12] }

end Sys2Proof.Machine
end

