-- ==== Sys2Proof/Machine/Flags.lean ====
section
/-! DEFINITION. The status bits (spec/10_state.md R24, R32, R42): the codes of PRES, the conditions that set
the sticky flags, the write that clears them, and STATUS as the host reads it. -/

namespace Sys2Proof.Machine

/-- spec/30_encoding.md R83: the codes of PRES. -/
def ParseResult.code : ParseResult → BitVec 3
  | .none => 0
  | .ok => 1
  | .frameTooShort => 2
  | .badStartByte => 3
  | .checksumMismatch => 4

/-- A flag as a bit. -/
def flagBit (flag : Bool) : Word := if flag then 1 else 0

/-- R32: STATUS as read. Bit 6 (BUSY, hard-wired) and the reserved bits read 0. -/
def Block.status (b : Block) : Word :=
  b.pres.code.setWidth 32 ||| (flagBit b.cmdErr <<< 4) ||| (flagBit b.ovf <<< 5)

/-- spec/60_exceptions.md R194: `set CMD_ERR`, the whole effect of a rejected command. -/
def Block.setCmdErr (b : Block) : Block := { b with cmdErr := true }

/-- R195: `set OVF`. -/
def Block.setOvf (b : Block) : Block := { b with ovf := true }

/-- spec/42_register_access.md R163: a write of `v` to STATUS clears the sticky flags whose bits are 1 in
`v`. -/
def Block.clearFlags (v : Word) (b : Block) : Block :=
  { b with
    cmdErr := if v.getLsbD 4 then false else b.cmdErr
    ovf := if v.getLsbD 5 then false else b.ovf }

end Sys2Proof.Machine
end

