-- ==== Sys2Proof/Machine/Crc.lean ====
section
/-! DEFINITION. The CRC function (spec/40_crc.md R110, R111, R114). -/

namespace Sys2Proof.Machine

/-- R110, one of the eight rounds: shift left, and reduce by the polynomial when bit 15 went out. -/
def crcShift (c : Half) : Half :=
  if c.getLsbD 15 then (c <<< 1) ^^^ Config.crcPoly else c <<< 1

/-- R110: the byte step, the eight bits of `b` taken most significant bit first. -/
def crcStep (c : Half) (b : Byte) : Half :=
  crcShift (crcShift (crcShift (crcShift (crcShift (crcShift (crcShift (crcShift
    (c ^^^ (b.setWidth 16 <<< 8)))))))))

/-- R111, the loop: the register after the bytes `d`, from `c`. -/
def crcFrom (c : Half) (d : List Byte) : Half := d.foldl crcStep c

/-- R111: `crc16` of a byte sequence, from 0xFFFF, with no reflection and no final XOR. -/
def crc16 (d : List Byte) : Half := crcFrom Config.crcInit d

/-- R114, the table `T[i] = crc_step(0x0000, i)`. -/
def crcTable (i : Byte) : Half := crcStep 0x0000 i

/-- R114: the table form of the byte step. -/
def crcStepTable (c : Half) (b : Byte) : Half :=
  (c <<< 8) ^^^ crcTable ((c >>> 8).setWidth 8 ^^^ b)

end Sys2Proof.Machine
end

