-- ==== Sys2Proof/Machine/Ops.lean ====
section
/-! DEFINITION. The named operations over the state: what each command does to the block, the reads and
writes of the registers, the completion of a transaction, the errors, and the reset event. The block has
no traps (spec/60_exceptions.md R201), so taking an exception is one of three effects here: a rejected
command sets CMD_ERR (`State.rejectCommand`), a full buffer sets OVF (in `Block.bufPush`), and a
non-performed transaction ends in BusError (`State.raiseBusError`). There is no return from one (R202); the
write that clears the flags is `Block.clearFlags`. -/

namespace Sys2Proof.Machine

/-! ### Commands -/

/-- spec/41_frame.md R130: no state changes. -/
def Block.nop (b : Block) : Block := b

/-- spec/40_crc.md R115: `CRC <- 0xFFFF`. -/
def Block.crcInit (b : Block) : Block := { b with crc := Config.crcInit }

/-- R116: `CRC <- crc_step(CRC, A)`. -/
def Block.crcByte (a : Byte) (b : Block) : Block := { b with crc := crcStep b.crc a }

/-- R117: `crc16` over a range of BUF or CMDFRAME, or CMD_ERR for a range beyond the valid bytes. The sum
of start and length is an integer and cannot wrap. -/
def Block.crcRange (src : CrcSource) (a len : Byte) (b : Block) : Block :=
  if a.toNat + len.toNat > b.sourceLimit src then b.setCmdErr
  else { b with crc := crc16 (range (b.source src) a.toNat len.toNat) }

/-- R131: discard the whole buffer. -/
def Block.bufClear (b : Block) : Block :=
  { b with count := 0, buf := Vector.replicate 15 0x00 }

/-- R132: append a byte, or drop it and set OVF when the buffer is full. -/
def Block.bufPush (a : Byte) (b : Block) : Block :=
  if h : b.count.toNat < 15 then
    { b with buf := b.buf.set b.count.toNat a, count := b.count + 1 }
  else b.setOvf

/-- R136, step 3: the checksum PARSE computes, over offsets 2 to 12. -/
def frameCrc (f : Vector Byte 15) : Half :=
  crc16 (range f.toList Config.respCrcFirst (Config.respCrcLast - Config.respCrcFirst + 1))

/-- R133: validate the buffer as a response frame and, if it is valid, latch its fields. -/
def Block.parse (b : Block) : Block :=
  if b.count.toNat < Config.frameLen then { b with pres := .frameTooShort }
  else if b.buf[0] ≠ Config.startByte then { b with pres := .badStartByte }
  else if frameCrc b.buf ≠ receivedCrc b.buf then
    { b with
      calcCrc := frameCrc b.buf
      recvCrc := receivedCrc b.buf
      pres := .checksumMismatch }
  else
    { b with
      calcCrc := frameCrc b.buf
      recvCrc := receivedCrc b.buf
      sample := extractSample b.buf
      pres := .ok }

/-- The effect of a command on the block. -/
def Block.runCommand : Command → Block → Block
  | .nop, b => b.nop
  | .crcInit, b => b.crcInit
  | .crcByte a, b => b.crcByte a
  | .crcRange src a len, b => b.crcRange src a len
  | .bufClear, b => b.bufClear
  | .bufPush a, b => b.bufPush a
  | .parse, b => b.parse

/-- spec/42_register_access.md R161, spec/30_encoding.md R88: a write of `w` to CMD decodes `w` and runs the
command, or sets CMD_ERR when `w` is illegal. -/
def Block.writeCmd (w : Word) (b : Block) : Block :=
  match decodeCommand w with
  | .ok c => b.runCommand c
  | .error _ => b.setCmdErr

/-! ### Registers -/

/-- R160 to R175: the value a register reads. No read changes the block (spec/20_memory.md R66). -/
def Block.readRegister (b : Block) : Register → Word
  | .cmd => 0
  | .status => b.status
  | .crc => b.crc.setWidth 32
  | .count => b.count.setWidth 32
  | .buf0 => packWord b.buf.toList 0
  | .buf1 => packWord b.buf.toList 1
  | .buf2 => packWord b.buf.toList 2
  | .buf3 => packWord b.buf.toList 3
  | .dist => b.sample.distMm.setWidth 32
  | .mag => b.sample.magnitude.setWidth 32 ||| (b.sample.magExp.setWidth 32 <<< 16)
  | .ambient => b.sample.ambient.setWidth 32
  | .precision => b.sample.precision.setWidth 32
  | .frameCrc => b.calcCrc.setWidth 32 ||| (b.recvCrc.setWidth 32 <<< 16)
  | .cmdframe0 => packWord Config.cmdFrame 0
  | .cmdframe1 => packWord Config.cmdFrame 1
  | .cmdframe2 => packWord Config.cmdFrame 2
  | .reserved _ => 0

/-- R161, R163, R165, R167: what a write of `v` to a register does to the block. Read-only and reserved
registers ignore it. -/
def Block.writeRegister (r : Register) (v : Word) (b : Block) : Block :=
  match r with
  | .cmd => b.writeCmd v
  | .status => b.clearFlags v
  | .crc => { b with crc := v.setWidth 16 }
  | .count => b
  | .buf0 => b
  | .buf1 => b
  | .buf2 => b
  | .buf3 => b
  | .dist => b
  | .mag => b
  | .ambient => b
  | .precision => b
  | .frameCrc => b
  | .cmdframe0 => b
  | .cmdframe1 => b
  | .cmdframe2 => b
  | .reserved _ => b

/-! ### Transactions -/

/-- The end of a performed transaction: the block as the transaction leaves it, the value returned to the
host, and the index one further (spec/10_state.md R21). -/
def State.finish (response : Option Word) (b : Block) (s : State) : State :=
  { s with block := b, response := response, index := s.index + 1 }

/-- A performed read of a register (R160 to R175). -/
def performRead (r : Register) (s : State) : Host.Outcome State Fault Refusal :=
  .next (s.finish (some (s.block.readRegister r)) s.block)

/-- A performed write of a register (R161 to R167). -/
def performWrite (r : Register) (v : Word) (s : State) : Host.Outcome State Fault Refusal :=
  .next (s.finish none (s.block.writeRegister r v))

/-- A performed write to CMD whose word selects a command with the effect `effect` (R161). -/
def performCommand (effect : Block → Block) (s : State) : Host.Outcome State Fault Refusal :=
  .next (s.finish none (effect s.block))

/-- spec/60_exceptions.md R194: a performed write to CMD whose word is illegal. -/
def State.rejectCommand (s : State) : State := s.finish none s.block.setCmdErr

/-- R176, R196: a non-performed transaction. The block is unchanged and no value is returned; the run is
marked faulted; the index goes up, a BusError included (R21). -/
def State.raiseBusError (off : BitVec 7) (size : AccessSize) (dir : Dir) (s : State) : State :=
  { s with index := s.index + 1, response := none, mark := some { off := off, size := size, dir := dir } }

/-! ### The runner -/

/-- R84: the transaction the host issues next, none when the index has reached the list's end (R21). -/
def State.fetch (s : State) : Option Entry := s.program[s.index]?

/-- R220: whether a reset event comes before the next transaction. -/
def State.resetDue (s : State) : Bool := s.resets.head? == some s.index

/-- R220: the reset event. It sets every state element of the block and is spent; the runner's state is not
the block's and is not reset (R21). -/
def State.applyReset (s : State) : State :=
  { s with block := Block.reset, resets := s.resets.tail }

/-- Put `e` where the host issues its next transaction, with nothing before it: no reset event is due and
the run is not marked faulted. A list shorter than the index is filled up with NOP words. -/
def State.placeEntry (s : State) (e : Entry) : State :=
  let before := s.program.take s.index
  { s with
    program :=
      before ++ List.replicate (s.index - before.length) (Entry.command 0)
        ++ e :: s.program.drop (s.index + 1)
    resets := s.resets.dropWhile (fun n => n == s.index)
    mark := none }

end Sys2Proof.Machine
end

