-- ==== Sys2Proof/Machine/BusErrorFamily.lean ====
section
/-! DEFINITION. The six BusError patterns (spec/42_register_access.md R176, spec/30_encoding.md R92). -/

namespace Sys2Proof.Machine

/-- R176: a 1-byte transaction. -/
def execBusErr1Byte (dir : Dir) (off : BitVec 7) (s : State) : Host.Outcome State Fault Refusal :=
  .next (s.raiseBusError off .one dir)

/-- R176: a 2-byte transaction. -/
def execBusErr2Byte (dir : Dir) (off : BitVec 7) (s : State) : Host.Outcome State Fault Refusal :=
  .next (s.raiseBusError off .two dir)

/-- R176: an 8-byte transaction. -/
def execBusErr8Byte (dir : Dir) (off : BitVec 7) (s : State) : Host.Outcome State Fault Refusal :=
  .next (s.raiseBusError off .eight dir)

/-- R176: a 4-byte transaction at an offset whose low bits are 01. -/
def execBusErrOffLow1 (dir : Dir) (off : BitVec 7) (s : State) : Host.Outcome State Fault Refusal :=
  .next (s.raiseBusError off .four dir)

/-- R176: a 4-byte transaction at an offset whose low bits are 10. -/
def execBusErrOffLow2 (dir : Dir) (off : BitVec 7) (s : State) : Host.Outcome State Fault Refusal :=
  .next (s.raiseBusError off .four dir)

/-- R176: a 4-byte transaction at an offset whose low bits are 11. -/
def execBusErrOffLow3 (dir : Dir) (off : BitVec 7) (s : State) : Host.Outcome State Fault Refusal :=
  .next (s.raiseBusError off .four dir)

end Sys2Proof.Machine
end

