-- ==== Sys2Proof/Machine/CrcFamily.lean ====
section
/-! DEFINITION. The CRC family: CRC_INIT, CRC_BYTE, CRC_RANGE (spec/40_crc.md). -/

namespace Sys2Proof.Machine

/-- R115. -/
def execCrcInit (s : State) : Host.Outcome State Fault Refusal :=
  performCommand Block.crcInit s

/-- R116. -/
def execCrcByte (a : Byte) (s : State) : Host.Outcome State Fault Refusal :=
  performCommand (Block.crcByte a) s

/-- R117. -/
def execCrcRange (src : CrcSource) (a len : Byte) (s : State) : Host.Outcome State Fault Refusal :=
  performCommand (Block.crcRange src a len) s

end Sys2Proof.Machine
end

