-- ==== Sys2Proof/Machine/FrameFamily.lean ====
section
/-! DEFINITION. The frame family: NOP, BUF_CLEAR, BUF_PUSH, PARSE (spec/41_frame.md). -/

namespace Sys2Proof.Machine

/-- R130. -/
def execNop (s : State) : Host.Outcome State Fault Refusal :=
  performCommand Block.nop s

/-- R131. -/
def execBufClear (s : State) : Host.Outcome State Fault Refusal :=
  performCommand Block.bufClear s

/-- R132. -/
def execBufPush (a : Byte) (s : State) : Host.Outcome State Fault Refusal :=
  performCommand (Block.bufPush a) s

/-- R133 to R139. -/
def execParse (s : State) : Host.Outcome State Fault Refusal :=
  performCommand Block.parse s

end Sys2Proof.Machine
end

