-- ==== Sys2Proof/Machine/ReadFamily.lean ====
section
/-! DEFINITION. The performed reads of the 32 register slots (spec/42_register_access.md). -/

namespace Sys2Proof.Machine

/-- R160, offset 0x00. -/
def execRdCmd (s : State) : Host.Outcome State Fault Refusal :=
  performRead .cmd s

/-- R162, offset 0x04. -/
def execRdStatus (s : State) : Host.Outcome State Fault Refusal :=
  performRead .status s

/-- R164, offset 0x08. -/
def execRdCrc (s : State) : Host.Outcome State Fault Refusal :=
  performRead .crc s

/-- R166, offset 0x0C. -/
def execRdCount (s : State) : Host.Outcome State Fault Refusal :=
  performRead .count s

/-- R168, offset 0x10. -/
def execRdBuf0 (s : State) : Host.Outcome State Fault Refusal :=
  performRead .buf0 s

/-- R168, offset 0x14. -/
def execRdBuf1 (s : State) : Host.Outcome State Fault Refusal :=
  performRead .buf1 s

/-- R168, offset 0x18. -/
def execRdBuf2 (s : State) : Host.Outcome State Fault Refusal :=
  performRead .buf2 s

/-- R168, offset 0x1C. -/
def execRdBuf3 (s : State) : Host.Outcome State Fault Refusal :=
  performRead .buf3 s

/-- R169, offset 0x20. -/
def execRdDist (s : State) : Host.Outcome State Fault Refusal :=
  performRead .dist s

/-- R170, offset 0x24. -/
def execRdMag (s : State) : Host.Outcome State Fault Refusal :=
  performRead .mag s

/-- R171, offset 0x28. -/
def execRdAmbient (s : State) : Host.Outcome State Fault Refusal :=
  performRead .ambient s

/-- R172, offset 0x2C. -/
def execRdPrecision (s : State) : Host.Outcome State Fault Refusal :=
  performRead .precision s

/-- R173, offset 0x30. -/
def execRdFrameCrc (s : State) : Host.Outcome State Fault Refusal :=
  performRead .frameCrc s

/-- R175, offset 0x34. -/
def execRdRsvd34 (s : State) : Host.Outcome State Fault Refusal :=
  performRead (.reserved 0x0D) s

/-- R175, offset 0x38. -/
def execRdRsvd38 (s : State) : Host.Outcome State Fault Refusal :=
  performRead (.reserved 0x0E) s

/-- R175, offset 0x3C. -/
def execRdRsvd3C (s : State) : Host.Outcome State Fault Refusal :=
  performRead (.reserved 0x0F) s

/-- R174, offset 0x40. -/
def execRdCmdframe0 (s : State) : Host.Outcome State Fault Refusal :=
  performRead .cmdframe0 s

/-- R174, offset 0x44. -/
def execRdCmdframe1 (s : State) : Host.Outcome State Fault Refusal :=
  performRead .cmdframe1 s

/-- R174, offset 0x48. -/
def execRdCmdframe2 (s : State) : Host.Outcome State Fault Refusal :=
  performRead .cmdframe2 s

/-- R175, offset 0x4C. -/
def execRdRsvd4C (s : State) : Host.Outcome State Fault Refusal :=
  performRead (.reserved 0x13) s

/-- R175, offset 0x50. -/
def execRdRsvd50 (s : State) : Host.Outcome State Fault Refusal :=
  performRead (.reserved 0x14) s

/-- R175, offset 0x54. -/
def execRdRsvd54 (s : State) : Host.Outcome State Fault Refusal :=
  performRead (.reserved 0x15) s

/-- R175, offset 0x58. -/
def execRdRsvd58 (s : State) : Host.Outcome State Fault Refusal :=
  performRead (.reserved 0x16) s

/-- R175, offset 0x5C. -/
def execRdRsvd5C (s : State) : Host.Outcome State Fault Refusal :=
  performRead (.reserved 0x17) s

/-- R175, offset 0x60. -/
def execRdRsvd60 (s : State) : Host.Outcome State Fault Refusal :=
  performRead (.reserved 0x18) s

/-- R175, offset 0x64. -/
def execRdRsvd64 (s : State) : Host.Outcome State Fault Refusal :=
  performRead (.reserved 0x19) s

/-- R175, offset 0x68. -/
def execRdRsvd68 (s : State) : Host.Outcome State Fault Refusal :=
  performRead (.reserved 0x1A) s

/-- R175, offset 0x6C. -/
def execRdRsvd6C (s : State) : Host.Outcome State Fault Refusal :=
  performRead (.reserved 0x1B) s

/-- R175, offset 0x70. -/
def execRdRsvd70 (s : State) : Host.Outcome State Fault Refusal :=
  performRead (.reserved 0x1C) s

/-- R175, offset 0x74. -/
def execRdRsvd74 (s : State) : Host.Outcome State Fault Refusal :=
  performRead (.reserved 0x1D) s

/-- R175, offset 0x78. -/
def execRdRsvd78 (s : State) : Host.Outcome State Fault Refusal :=
  performRead (.reserved 0x1E) s

/-- R175, offset 0x7C. -/
def execRdRsvd7C (s : State) : Host.Outcome State Fault Refusal :=
  performRead (.reserved 0x1F) s

end Sys2Proof.Machine
end

