-- ==== Sys2Proof/Machine/WriteFamily.lean ====
section
/-! DEFINITION. The performed writes of the 32 register slots (spec/42_register_access.md). -/

namespace Sys2Proof.Machine

/-- R161, offset 0x00. -/
def execWrCmd (v : Word) (s : State) : Host.Outcome State Fault Refusal :=
  performWrite .cmd v s

/-- R163, offset 0x04. -/
def execWrStatus (v : Word) (s : State) : Host.Outcome State Fault Refusal :=
  performWrite .status v s

/-- R165, offset 0x08. -/
def execWrCrc (v : Word) (s : State) : Host.Outcome State Fault Refusal :=
  performWrite .crc v s

/-- R167, offset 0x0C. -/
def execWrCount (v : Word) (s : State) : Host.Outcome State Fault Refusal :=
  performWrite .count v s

/-- R167, offset 0x10. -/
def execWrBuf0 (v : Word) (s : State) : Host.Outcome State Fault Refusal :=
  performWrite .buf0 v s

/-- R167, offset 0x14. -/
def execWrBuf1 (v : Word) (s : State) : Host.Outcome State Fault Refusal :=
  performWrite .buf1 v s

/-- R167, offset 0x18. -/
def execWrBuf2 (v : Word) (s : State) : Host.Outcome State Fault Refusal :=
  performWrite .buf2 v s

/-- R167, offset 0x1C. -/
def execWrBuf3 (v : Word) (s : State) : Host.Outcome State Fault Refusal :=
  performWrite .buf3 v s

/-- R167, offset 0x20. -/
def execWrDist (v : Word) (s : State) : Host.Outcome State Fault Refusal :=
  performWrite .dist v s

/-- R167, offset 0x24. -/
def execWrMag (v : Word) (s : State) : Host.Outcome State Fault Refusal :=
  performWrite .mag v s

/-- R167, offset 0x28. -/
def execWrAmbient (v : Word) (s : State) : Host.Outcome State Fault Refusal :=
  performWrite .ambient v s

/-- R167, offset 0x2C. -/
def execWrPrecision (v : Word) (s : State) : Host.Outcome State Fault Refusal :=
  performWrite .precision v s

/-- R167, offset 0x30. -/
def execWrFrameCrc (v : Word) (s : State) : Host.Outcome State Fault Refusal :=
  performWrite .frameCrc v s

/-- R167, offset 0x34. -/
def execWrRsvd34 (v : Word) (s : State) : Host.Outcome State Fault Refusal :=
  performWrite (.reserved 0x0D) v s

/-- R167, offset 0x38. -/
def execWrRsvd38 (v : Word) (s : State) : Host.Outcome State Fault Refusal :=
  performWrite (.reserved 0x0E) v s

/-- R167, offset 0x3C. -/
def execWrRsvd3C (v : Word) (s : State) : Host.Outcome State Fault Refusal :=
  performWrite (.reserved 0x0F) v s

/-- R167, offset 0x40. -/
def execWrCmdframe0 (v : Word) (s : State) : Host.Outcome State Fault Refusal :=
  performWrite .cmdframe0 v s

/-- R167, offset 0x44. -/
def execWrCmdframe1 (v : Word) (s : State) : Host.Outcome State Fault Refusal :=
  performWrite .cmdframe1 v s

/-- R167, offset 0x48. -/
def execWrCmdframe2 (v : Word) (s : State) : Host.Outcome State Fault Refusal :=
  performWrite .cmdframe2 v s

/-- R167, offset 0x4C. -/
def execWrRsvd4C (v : Word) (s : State) : Host.Outcome State Fault Refusal :=
  performWrite (.reserved 0x13) v s

/-- R167, offset 0x50. -/
def execWrRsvd50 (v : Word) (s : State) : Host.Outcome State Fault Refusal :=
  performWrite (.reserved 0x14) v s

/-- R167, offset 0x54. -/
def execWrRsvd54 (v : Word) (s : State) : Host.Outcome State Fault Refusal :=
  performWrite (.reserved 0x15) v s

/-- R167, offset 0x58. -/
def execWrRsvd58 (v : Word) (s : State) : Host.Outcome State Fault Refusal :=
  performWrite (.reserved 0x16) v s

/-- R167, offset 0x5C. -/
def execWrRsvd5C (v : Word) (s : State) : Host.Outcome State Fault Refusal :=
  performWrite (.reserved 0x17) v s

/-- R167, offset 0x60. -/
def execWrRsvd60 (v : Word) (s : State) : Host.Outcome State Fault Refusal :=
  performWrite (.reserved 0x18) v s

/-- R167, offset 0x64. -/
def execWrRsvd64 (v : Word) (s : State) : Host.Outcome State Fault Refusal :=
  performWrite (.reserved 0x19) v s

/-- R167, offset 0x68. -/
def execWrRsvd68 (v : Word) (s : State) : Host.Outcome State Fault Refusal :=
  performWrite (.reserved 0x1A) v s

/-- R167, offset 0x6C. -/
def execWrRsvd6C (v : Word) (s : State) : Host.Outcome State Fault Refusal :=
  performWrite (.reserved 0x1B) v s

/-- R167, offset 0x70. -/
def execWrRsvd70 (v : Word) (s : State) : Host.Outcome State Fault Refusal :=
  performWrite (.reserved 0x1C) v s

/-- R167, offset 0x74. -/
def execWrRsvd74 (v : Word) (s : State) : Host.Outcome State Fault Refusal :=
  performWrite (.reserved 0x1D) v s

/-- R167, offset 0x78. -/
def execWrRsvd78 (v : Word) (s : State) : Host.Outcome State Fault Refusal :=
  performWrite (.reserved 0x1E) v s

/-- R167, offset 0x7C. -/
def execWrRsvd7C (v : Word) (s : State) : Host.Outcome State Fault Refusal :=
  performWrite (.reserved 0x1F) v s

end Sys2Proof.Machine
end

