-- ==== Sys2Proof/Machine/Dispatch.lean ====
section
/-! DEFINITION. The dispatch: one arm per row of spec/opcode_table.json, each one call of its meaning. -/

namespace Sys2Proof.Machine

def exec (i : Instr) (s : State) : Host.Outcome State Fault Refusal :=
  match i with
  | .nop => Sys2Proof.Machine.execNop s
  | .crcInit => Sys2Proof.Machine.execCrcInit s
  | .crcByte a => Sys2Proof.Machine.execCrcByte a s
  | .crcRange src a len => Sys2Proof.Machine.execCrcRange src a len s
  | .bufClear => Sys2Proof.Machine.execBufClear s
  | .bufPush a => Sys2Proof.Machine.execBufPush a s
  | .parse => Sys2Proof.Machine.execParse s
  | .rdCmd => Sys2Proof.Machine.execRdCmd s
  | .rdStatus => Sys2Proof.Machine.execRdStatus s
  | .rdCrc => Sys2Proof.Machine.execRdCrc s
  | .rdCount => Sys2Proof.Machine.execRdCount s
  | .rdBuf0 => Sys2Proof.Machine.execRdBuf0 s
  | .rdBuf1 => Sys2Proof.Machine.execRdBuf1 s
  | .rdBuf2 => Sys2Proof.Machine.execRdBuf2 s
  | .rdBuf3 => Sys2Proof.Machine.execRdBuf3 s
  | .rdDist => Sys2Proof.Machine.execRdDist s
  | .rdMag => Sys2Proof.Machine.execRdMag s
  | .rdAmbient => Sys2Proof.Machine.execRdAmbient s
  | .rdPrecision => Sys2Proof.Machine.execRdPrecision s
  | .rdFrameCrc => Sys2Proof.Machine.execRdFrameCrc s
  | .rdRsvd34 => Sys2Proof.Machine.execRdRsvd34 s
  | .rdRsvd38 => Sys2Proof.Machine.execRdRsvd38 s
  | .rdRsvd3C => Sys2Proof.Machine.execRdRsvd3C s
  | .rdCmdframe0 => Sys2Proof.Machine.execRdCmdframe0 s
  | .rdCmdframe1 => Sys2Proof.Machine.execRdCmdframe1 s
  | .rdCmdframe2 => Sys2Proof.Machine.execRdCmdframe2 s
  | .rdRsvd4C => Sys2Proof.Machine.execRdRsvd4C s
  | .rdRsvd50 => Sys2Proof.Machine.execRdRsvd50 s
  | .rdRsvd54 => Sys2Proof.Machine.execRdRsvd54 s
  | .rdRsvd58 => Sys2Proof.Machine.execRdRsvd58 s
  | .rdRsvd5C => Sys2Proof.Machine.execRdRsvd5C s
  | .rdRsvd60 => Sys2Proof.Machine.execRdRsvd60 s
  | .rdRsvd64 => Sys2Proof.Machine.execRdRsvd64 s
  | .rdRsvd68 => Sys2Proof.Machine.execRdRsvd68 s
  | .rdRsvd6C => Sys2Proof.Machine.execRdRsvd6C s
  | .rdRsvd70 => Sys2Proof.Machine.execRdRsvd70 s
  | .rdRsvd74 => Sys2Proof.Machine.execRdRsvd74 s
  | .rdRsvd78 => Sys2Proof.Machine.execRdRsvd78 s
  | .rdRsvd7C => Sys2Proof.Machine.execRdRsvd7C s
  | .wrCmd v => Sys2Proof.Machine.execWrCmd v s
  | .wrStatus v => Sys2Proof.Machine.execWrStatus v s
  | .wrCrc v => Sys2Proof.Machine.execWrCrc v s
  | .wrCount v => Sys2Proof.Machine.execWrCount v s
  | .wrBuf0 v => Sys2Proof.Machine.execWrBuf0 v s
  | .wrBuf1 v => Sys2Proof.Machine.execWrBuf1 v s
  | .wrBuf2 v => Sys2Proof.Machine.execWrBuf2 v s
  | .wrBuf3 v => Sys2Proof.Machine.execWrBuf3 v s
  | .wrDist v => Sys2Proof.Machine.execWrDist v s
  | .wrMag v => Sys2Proof.Machine.execWrMag v s
  | .wrAmbient v => Sys2Proof.Machine.execWrAmbient v s
  | .wrPrecision v => Sys2Proof.Machine.execWrPrecision v s
  | .wrFrameCrc v => Sys2Proof.Machine.execWrFrameCrc v s
  | .wrRsvd34 v => Sys2Proof.Machine.execWrRsvd34 v s
  | .wrRsvd38 v => Sys2Proof.Machine.execWrRsvd38 v s
  | .wrRsvd3C v => Sys2Proof.Machine.execWrRsvd3C v s
  | .wrCmdframe0 v => Sys2Proof.Machine.execWrCmdframe0 v s
  | .wrCmdframe1 v => Sys2Proof.Machine.execWrCmdframe1 v s
  | .wrCmdframe2 v => Sys2Proof.Machine.execWrCmdframe2 v s
  | .wrRsvd4C v => Sys2Proof.Machine.execWrRsvd4C v s
  | .wrRsvd50 v => Sys2Proof.Machine.execWrRsvd50 v s
  | .wrRsvd54 v => Sys2Proof.Machine.execWrRsvd54 v s
  | .wrRsvd58 v => Sys2Proof.Machine.execWrRsvd58 v s
  | .wrRsvd5C v => Sys2Proof.Machine.execWrRsvd5C v s
  | .wrRsvd60 v => Sys2Proof.Machine.execWrRsvd60 v s
  | .wrRsvd64 v => Sys2Proof.Machine.execWrRsvd64 v s
  | .wrRsvd68 v => Sys2Proof.Machine.execWrRsvd68 v s
  | .wrRsvd6C v => Sys2Proof.Machine.execWrRsvd6C v s
  | .wrRsvd70 v => Sys2Proof.Machine.execWrRsvd70 v s
  | .wrRsvd74 v => Sys2Proof.Machine.execWrRsvd74 v s
  | .wrRsvd78 v => Sys2Proof.Machine.execWrRsvd78 v s
  | .wrRsvd7C v => Sys2Proof.Machine.execWrRsvd7C v s
  | .busErr1Byte dir off => Sys2Proof.Machine.execBusErr1Byte dir off s
  | .busErr2Byte dir off => Sys2Proof.Machine.execBusErr2Byte dir off s
  | .busErr8Byte dir off => Sys2Proof.Machine.execBusErr8Byte dir off s
  | .busErrOffLow1 dir off => Sys2Proof.Machine.execBusErrOffLow1 dir off s
  | .busErrOffLow2 dir off => Sys2Proof.Machine.execBusErrOffLow2 dir off s
  | .busErrOffLow3 dir off => Sys2Proof.Machine.execBusErrOffLow3 dir off s

end Sys2Proof.Machine
end

