-- ==== Sys2Proof/Machine/Step.lean ====
section
/-! DEFINITION. One step of the machine: the next event of the run, which is a reset event that is due or the
host's next transaction (spec/00_scope.md R7, spec/20_memory.md R69). -/

namespace Sys2Proof.Machine

/-- One step. A run that a BusError has marked is faulted for good (spec/60_exceptions.md R196). Otherwise a
reset that is due takes place (spec/70_reset_and_hazards.md R220). Otherwise the transaction at the index is
decoded and executed, an illegal command word with the effect of R90; with no transaction left the run has
ended (spec/10_state.md R21). -/
def step (s : State) : Host.Outcome State Fault Refusal :=
  match s.mark with
  | some f => .fault (.busError f.off f.size f.dir)
  | none =>
    if s.resetDue then .next s.applyReset
    else
      match s.fetch with
      | none => .refused .runEnded
      | some e =>
        match decode e with
        | .ok i => exec i s
        | .error _ => .next s.rejectCommand

/-- The state with the instruction whose bits are `w` placed as the host's next transaction, so that the very
next step runs it (log entry 6). Bits that are no instruction leave the state as it is. -/
def State.withFetchWord (s : State) (nbits w : Nat) : State :=
  match entryOfBits nbits w with
  | some e => s.placeEntry e
  | none => s

end Sys2Proof.Machine
end

