-- ==== Sys2Proof/Machine/Assembler.lean ====
section
/-! DEFINITION. The assembler of spec/30_encoding.md R93 and R94: one statement a line, the comment sign,
decimal and 0x numbers, the register names, the refusals, and the pseudo-instructions with their
expansions. A program of statements becomes the host's list of transactions (R84). -/

namespace Sys2Proof.Machine

/-- A register as a statement names it: by a name of spec/10_state.md R30, or by a numeric offset (R93). -/
inductive RegRef where
  | named (r : Register)
  | offset (n : Nat)
deriving DecidableEq, Repr

/-- The statements of R93 and the pseudo-instructions of R94, with their numbers as written. -/
inductive Stmt where
  | nop
  | crcInit
  | crcByte (imm8 : Nat)
  | crcRange (start len : Nat)
  | crcRangeRom (start len : Nat)
  | bufClear
  | bufPush (imm8 : Nat)
  | parse
  | rd (reg : RegRef)
  | wr (reg : RegRef) (imm32 : Nat)
  | cmd (imm32 : Nat)
  | crcBytes (bytes : List Nat)
  | crcOf (bytes : List Nat)
  | bufLoad (bytes : List Nat)
  | statClr
  | cmdframeCheck
deriving DecidableEq, Repr

/-! ### Statements to transactions -/

/-- R93: a number for an 8-bit field, refused when it does not fit. -/
def imm8? (n : Nat) : Option Byte := if n < 2 ^ 8 then some (BitVec.ofNat 8 n) else none

/-- R93: a number for a 32-bit field, refused when it does not fit. -/
def imm32? (n : Nat) : Option Word := if n < 2 ^ 32 then some (BitVec.ofNat 32 n) else none

/-- R93: the window offset of a register reference. A numeric offset that is not a multiple of 4 or not
below 0x80 is refused. -/
def RegRef.offset? : RegRef → Option (BitVec 7)
  | .named r => some r.offset
  | .offset n => if n % 4 = 0 ∧ n < 0x80 then some (BitVec.ofNat 7 n) else none

/-- The entry of a command statement. -/
def commandEntry (c : Command) : Entry := .command (encodeCommand c)

/-- R94: one entry per byte, each byte refused when it does not fit. -/
def byteEntries (c : Byte → Command) : List Nat → Option (List Entry)
  | [] => some []
  | n :: ns =>
    match imm8? n, byteEntries c ns with
    | some a, some rest => some (commandEntry (c a) :: rest)
    | _, _ => none

/-- The entry of a CRC_RANGE statement. -/
def rangeEntry (src : CrcSource) (start len : Nat) : Option (List Entry) :=
  match imm8? start, imm8? len with
  | some a, some n => some [commandEntry (.crcRange src a n)]
  | _, _ => none

/-- A byte list of a pseudo-instruction has at least one byte, since R94 writes its first one out (log
entry 7). -/
def atLeastOne (bytes : List Nat) (result : Option (List Entry)) : Option (List Entry) :=
  if bytes = [] then none else result

/-- R93, R94: the transactions of a statement, none when the assembler refuses it. -/
def assemble : Stmt → Option (List Entry)
  | .nop => some [commandEntry .nop]
  | .crcInit => some [commandEntry .crcInit]
  | .crcByte n => (imm8? n).map fun a => [commandEntry (.crcByte a)]
  | .crcRange start len => rangeEntry .buf start len
  | .crcRangeRom start len => rangeEntry .cmdFrame start len
  | .bufClear => some [commandEntry .bufClear]
  | .bufPush n => (imm8? n).map fun a => [commandEntry (.bufPush a)]
  | .parse => some [commandEntry .parse]
  | .rd reg => reg.offset?.map fun off => [.bus (descriptor .four .read off) 0]
  | .wr reg n =>
    match reg.offset?, imm32? n with
    | some off, some v => some [.bus (descriptor .four .write off) v]
    | _, _ => none
  | .cmd n => (imm32? n).map fun v => [.bus (descriptor .four .write 0x00) v]
  | .crcBytes bytes => atLeastOne bytes (byteEntries .crcByte bytes)
  | .crcOf bytes =>
    atLeastOne bytes ((byteEntries .crcByte bytes).map fun rest => commandEntry .crcInit :: rest)
  | .bufLoad bytes =>
    if bytes.length ≤ Config.bufCap then
      atLeastOne bytes ((byteEntries .bufPush bytes).map fun rest => commandEntry .bufClear :: rest)
    else none
  | .statClr => some [.bus (descriptor .four .write 0x04) 0x00000030]
  | .cmdframeCheck => rangeEntry .cmdFrame 0 8

/-- The transactions of a list of statements, none when one of them is refused. -/
def assembleAll : List Stmt → Option (List Entry)
  | [] => some []
  | st :: rest =>
    match assemble st, assembleAll rest with
    | some now, some later => some (now ++ later)
    | _, _ => none

/-! ### Text to statements -/

/-- A white character inside a line. -/
def isBlank (c : Char) : Bool := c == ' ' || c == '\t' || c == '\r'

/-- The text without white characters at its two ends. -/
def trimText (cs : List Char) : List Char :=
  ((cs.dropWhile isBlank).reverse.dropWhile isBlank).reverse

/-- The pieces of a text between separators. -/
def splitText (sep : Char) : List Char → List (List Char)
  | [] => [[]]
  | c :: cs =>
    if c == sep then [] :: splitText sep cs
    else
      match splitText sep cs with
      | [] => [[c]]
      | piece :: rest => (c :: piece) :: rest

/-- The value of a digit in a base of at most 16, none for a character that is no digit of it. -/
def digit? (base : Nat) (c : Char) : Option Nat :=
  let n := c.toNat
  let d :=
    if 48 ≤ n ∧ n ≤ 57 then n - 48
    else if 97 ≤ n ∧ n ≤ 102 then n - 87
    else if 65 ≤ n ∧ n ≤ 70 then n - 55
    else base
  if d < base then some d else none

/-- The value of a run of digits read after the value `acc`. -/
def digits? (base : Nat) : Nat → List Char → Option Nat
  | acc, [] => some acc
  | acc, c :: cs =>
    match digit? base c with
    | some d => digits? base (base * acc + d) cs
    | none => none

/-- R93: numbers are decimal or 0x hex. -/
def number? : List Char → Option Nat
  | [] => none
  | '0' :: 'x' :: [] => none
  | '0' :: 'x' :: c :: cs => digits? 16 0 (c :: cs)
  | c :: cs => digits? 10 0 (c :: cs)

/-- All the numbers of a list of operands. -/
def numbers? : List (List Char) → Option (List Nat)
  | [] => some []
  | x :: xs =>
    match number? x, numbers? xs with
    | some n, some ns => some (n :: ns)
    | _, _ => none

/-- The register names of spec/10_state.md R30. -/
def registerNames : List (List Char × Register) :=
  [("CMD".toList, .cmd), ("STATUS".toList, .status), ("CRC".toList, .crc), ("COUNT".toList, .count),
   ("BUF0".toList, .buf0), ("BUF1".toList, .buf1), ("BUF2".toList, .buf2), ("BUF3".toList, .buf3),
   ("DIST".toList, .dist), ("MAG".toList, .mag), ("AMBIENT".toList, .ambient),
   ("PRECISION".toList, .precision), ("FRAME_CRC".toList, .frameCrc),
   ("CMDFRAME0".toList, .cmdframe0), ("CMDFRAME1".toList, .cmdframe1),
   ("CMDFRAME2".toList, .cmdframe2)]

/-- R93: a register by its name or by a numeric offset. -/
def regRef? (cs : List Char) : Option RegRef :=
  match registerNames.find? (fun p => p.1 == cs) with
  | some p => some (.named p.2)
  | none => (number? cs).map .offset

/-- The statements without operands. -/
def plainStmts : List (List Char × Stmt) :=
  [("nop".toList, .nop), ("crc.init".toList, .crcInit), ("buf.clear".toList, .bufClear),
   ("parse".toList, .parse), ("stat.clr".toList, .statClr), ("cmdframe.check".toList, .cmdframeCheck)]

/-- The statements whose operands are numbers. -/
def numericStmt? (name : List Char) (ns : List Nat) : Option Stmt :=
  if name = "crc.bytes".toList then some (.crcBytes ns)
  else if name = "crc.of".toList then some (.crcOf ns)
  else if name = "buf.load".toList then some (.bufLoad ns)
  else
    match ns with
    | [n] =>
      if name = "crc.byte".toList then some (.crcByte n)
      else if name = "buf.push".toList then some (.bufPush n)
      else if name = "cmd".toList then some (.cmd n)
      else none
    | [start, len] =>
      if name = "crc.range".toList then some (.crcRange start len)
      else if name = "crc.range.rom".toList then some (.crcRangeRom start len)
      else none
    | _ => none

/-- A statement from its mnemonic and operands. -/
def stmt? (name : List Char) (operands : List (List Char)) : Option Stmt :=
  match operands with
  | [] => (plainStmts.find? (fun p => p.1 == name)).map Prod.snd
  | first :: rest =>
    if name = "rd".toList then
      match rest with
      | [] => (regRef? first).map .rd
      | _ => none
    else if name = "wr".toList then
      match regRef? first, numbers? rest with
      | some reg, some [n] => some (.wr reg n)
      | _, _ => none
    else
      match numbers? operands with
      | some ns => numericStmt? name ns
      | none => none

/-- One line of the source without its comment: no statement, one statement, or none when it is refused. -/
def parseLine (line : List Char) : Option (List Stmt) :=
  match trimText (line.takeWhile (fun c => c != ';')) with
  | [] => some []
  | text =>
    let name := text.takeWhile (fun c => !isBlank c)
    match trimText (text.dropWhile (fun c => !isBlank c)) with
    | [] => (stmt? name []).map fun st => [st]
    | operands => (stmt? name ((splitText ',' operands).map trimText)).map fun st => [st]

/-- The statements of the lines of a source. -/
def parseLines : List (List Char) → Option (List Stmt)
  | [] => some []
  | line :: rest =>
    match parseLine line, parseLines rest with
    | some now, some later => some (now ++ later)
    | _, _ => none

/-- R93, R94: the host's list of transactions from the text of a source, none when it is refused. -/
def assembleText (source : List Char) : Option (List Entry) :=
  match parseLines (splitText '\n' source) with
  | some stmts => assembleAll stmts
  | none => none

end Sys2Proof.Machine
end

