-- ==== Sys2Proof/Machine/HostSide.lean ====
section
/-! DEFINITION. The host's side of the interface, which the block does not enforce (spec/60_exceptions.md
R210): the start sequence and the tick as lists of transactions, how a tick's result is counted, and the
conversion of millimetres to metres (spec/41_frame.md R143). No step of the machine uses this file. -/

namespace Sys2Proof.Machine

/-- spec/70_reset_and_hazards.md R223, step 1, and R211: the reads that give the host the command frame. -/
def hostStart : List Entry :=
  [.bus (descriptor .four .read Register.cmdframe0.offset) 0,
   .bus (descriptor .four .read Register.cmdframe1.offset) 0,
   .bus (descriptor .four .read Register.cmdframe2.offset) 0]

/-- spec/60_exceptions.md R212: one tick of the host with the bytes its link has available, of which it
pushes at most 15. -/
def hostTick (available : List Byte) : List Entry :=
  commandEntry .bufClear
    :: ((available.take Config.bufCap).map fun a => commandEntry (.bufPush a))
    ++ [commandEntry .parse, .bus (descriptor .four .read Register.status.offset) 0]

/-- The host's two counters (R213). They are the host's and not the block's (R204). -/
structure HostCounters where
  samples : Nat
  errors : Nat
deriving DecidableEq, Repr

/-- R213: one sample per OK, one communications error per parse failure. -/
def HostCounters.count (n : HostCounters) : ParseResult → HostCounters
  | .none => n
  | .ok => { n with samples := n.samples + 1 }
  | .frameTooShort => { n with errors := n.errors + 1 }
  | .badStartByte => { n with errors := n.errors + 1 }
  | .checksumMismatch => { n with errors := n.errors + 1 }

/-- R213: one communications error for a failed serial read (R197, `IoError`), which reaches no block state. -/
def HostCounters.ioError (n : HostCounters) : HostCounters := { n with errors := n.errors + 1 }

/-- R143: the normative distance in metres, the exact rational `DIST_MM / 1000`. -/
def metres (distMm : Half) : Rat := (distMm.toNat : Rat) / 1000

/-- `n / d` rounded to the nearest integer, ties to even. -/
def divRoundEven (n d : Nat) : Nat :=
  let q := n / d
  let r := n % d
  if 2 * r > d ∨ (2 * r = d ∧ q % 2 = 1) then q + 1 else q

/-- The least shift, from `k` on within `fuel` tries, by which `n / 1000` reaches a 24-bit significand. -/
def metresShift (n : Nat) : Nat → Nat → Nat
  | 0, k => k
  | fuel + 1, k => if n * 2 ^ k ≥ 1000 * 2 ^ 23 then k else metresShift n fuel (k + 1)

/-- R143: the metres as the binary32 nearest to the exact quotient, ties to even. The shifts of nonzero
16-bit distances lie between 17 and 33, so the result is a normal number; a significand that rounds up to
2^24 carries into the exponent. -/
def metresBinary32 (distMm : Half) : Word :=
  let n := distMm.toNat
  if n = 0 then 0
  else
    let k := metresShift n 17 17
    BitVec.ofNat 32 ((150 - k) * 2 ^ 23 + (divRoundEven (n * 2 ^ k) 1000 - 2 ^ 23))

end Sys2Proof.Machine
end

