-- ==== Sys2Proof/Safety.lean ====
section
/-! DEFINITION. The terms in which claims speak of the machine: the invariants of spec/10_state.md R29, a run
that no BusError has marked, and the effect of one transaction on the block by its tuple alone, of which
spec/20_memory.md R69 makes a run the fold. -/

namespace Sys2Proof.Machine

/-- A byte string that PARSE accepts as a response frame (spec/41_frame.md R134, R136). -/
def acceptedFrame (f : Vector Byte 15) : Prop :=
  f[0] = 0x0A ∧ crc16 (range f.toList 2 11) = u16 f[13] f[14]

/-- The invariants I1 to I4 of R29. -/
structure Block.Inv (b : Block) : Prop where
  /-- I1. -/
  countBound : b.count.toNat ≤ 15
  /-- I2: the bytes beyond COUNT are zero. -/
  restZero : ∀ (i : Nat) (h : i < 15), b.count.toNat ≤ i → b.buf[i] = 0x00
  /-- I3. -/
  presCode : b.pres.code.toNat ≤ 4
  /-- I4: with PRES = 1, the sample fields and both checksums come from one accepted frame. -/
  sampleOrigin : b.pres = .ok →
    ∃ f : Vector Byte 15, acceptedFrame f ∧ b.calcCrc = crc16 (range f.toList 2 11) ∧
      b.recvCrc = u16 f[13] f[14] ∧ b.calcCrc = b.recvCrc ∧
      b.sample = { distMm := u16 f[5] f[6], magnitude := u16 f[7] f[8], magExp := f[9],
                   ambient := f[10], precision := u16 f[11] f[12] }

/-- The invariant of the machine: the block's own, and the index of R21 never beyond the list. -/
structure State.Inv (s : State) : Prop where
  block : s.block.Inv
  indexBound : s.index ≤ s.program.length

/-- A run that no BusError has marked (R196). -/
def State.unfaulted (s : State) : Prop := s.mark = none

/-- A state whose next event is the transaction `e`: the run is not faulted, no reset is due, and `e` stands
at the index. -/
def State.nextIs (s : State) (e : Entry) : Prop :=
  s.mark = none ∧ s.resetDue = false ∧ s.program[s.index]? = some e

/-- What a transaction does to the block, by its tuple alone: nothing unless it is a performed write
(spec/20_memory.md R62, R66). -/
def Block.transact (b : Block) (t : Transaction) : Block :=
  if isPerformed t.size t.off then
    match t.dir with
    | .read => b
    | .write => b.writeRegister (registerAt (t.off.extractLsb' 2 5)) t.wdata
  else b

/-- The command an instruction carries: its own, or the one its word selects for a write to CMD
(spec/42_register_access.md R161). -/
def carriedCommand : Instr → Option Command
  | .nop => some .nop
  | .crcInit => some .crcInit
  | .crcByte a => some (.crcByte a)
  | .crcRange src a len => some (.crcRange src a len)
  | .bufClear => some .bufClear
  | .bufPush a => some (.bufPush a)
  | .parse => some .parse
  | .wrCmd w => (decodeCommand w).toOption
  | _ => none

/-- A word whose write to CMD is rejected: it sets CMD_ERR and changes nothing else of the block
(spec/30_encoding.md R90). -/
def rejectedWord (w : Word) : Prop :=
  ∀ s : State,
    exec (.wrCmd w) s =
      .next { s with block := { s.block with cmdErr := true }, response := none, index := s.index + 1 }

/-- Instructions executed one after the other, as long as each answers a next state. -/
def execAll : List Instr → State → Host.Outcome State Fault Refusal
  | [], s => .next s
  | i :: rest, s =>
    match exec i s with
    | .next t => execAll rest t
    | .fault f => .fault f
    | .refused r => .refused r

end Sys2Proof.Machine
end

