-- ==== Sys2Proof/Certificates/Slice0/Obligations.lean ====
section
/-! DEFINITION. The statements for the provers. Each docstring says which rules of spec/ it formalises and,
where a clause rests on the model's own choice, which log entry says so. An equation for a next state also
says what the runner's fields hold: the index goes up by one (R21), and `response` is the value the
transaction returns to the host (R84), none for a write; that such a field exists is the model's choice,
log entry 3. -/

open Sys2Proof Sys2Proof.Machine

/-- Reset sets every state element of the block to its reset value, seen through every register (R220). -/
def Obligations.ResetGivesEveryElementItsValue : Prop :=
  State.reset.block =
      { crc := 0xFFFF
        count := 0
        buf := #v[0, 0, 0, 0, 0, 0, 0, 0, 0, 0, 0, 0, 0, 0, 0]
        pres := .none
        cmdErr := false
        ovf := false
        sample := { distMm := 0, magnitude := 0, magExp := 0, ambient := 0, precision := 0 }
        calcCrc := 0
        recvCrc := 0 } ∧
    (∀ s : State, s.applyReset.block = State.reset.block) ∧
    State.reset.block.readRegister .crc = 0x0000FFFF ∧
    (∀ r ∈ [Register.status, .count, .buf0, .buf1, .buf2, .buf3, .dist, .mag, .ambient, .precision,
        .frameCrc], State.reset.block.readRegister r = 0x00000000) ∧
    State.reset.block.readRegister .cmdframe0 = 0x0000240A ∧
    State.reset.block.readRegister .cmdframe1 = 0x00000000 ∧
    State.reset.block.readRegister .cmdframe2 = 0x0000720F

/-- A reset event that is due takes its own step, resets the block and leaves the runner alone
(70_reset_and_hazards.md section 1 (R220), 10_state.md section 1 (R21)).
How reset events are delivered (the list of indices in the state) is the model's choice, log entry 4. -/
def Obligations.ResetEventComesBetweenTransactions : Prop :=
  ∀ (s : State) (rest : List Nat), s.mark = none → s.resets = s.index :: rest →
    step s = .next { s with block := State.reset.block, resets := rest }

/-- The reset state meets the invariant of the machine (10_state.md section 2 (R29), R220). -/
def Obligations.ResetStateMeetsTheInvariant : Prop :=
  State.reset.Inv

/-- Every step keeps the invariants I1 to I4 and the bound of the index (10_state.md section 2 (R29),
10_state.md section 1 (R21)).
Reset events delivered through the state and a BusError as a next state are the model's choices, log
entries 4 and 1. -/
def Obligations.EveryStepKeepsTheInvariant : Prop :=
  ∀ s t : State, s.Inv → step s = .next t → t.Inv

/-- A step executes exactly the instruction the next transaction decodes to (30_encoding.md section 3 (R88),
10_state.md section 1 (R21)). -/
def Obligations.StepRunsTheDecodedTransaction : Prop :=
  ∀ (s : State) (e : Entry), s.nextIs e →
    (∀ i : Instr, decode e = .ok i → step s = exec i s) ∧
    (∀ r : DecodeError, decode e = .error r →
      step s = .next { s with block := { s.block with cmdErr := true }, response := none, index := s.index + 1 })

/-- Words written out from the spec decode to the instructions they stand for (95_test_vectors.md sections 6
and 7, 30_encoding.md section 3 (R87), 30_encoding.md section 4 (R92)). -/
def Obligations.WrittenOutWordsDecodeAsTheSpecSays : Prop :=
  ∀ p ∈ ([
      (.command 0x00000000, .nop),
      (.command 0x00000001, .crcInit),
      (.command 0x00000A02, .crcByte 0x0A),
      (.command 0x000B0203, .crcRange .buf 2 11),
      (.command 0x00080013, .crcRange .cmdFrame 0 8),
      (.command 0x00000004, .bufClear),
      (.command 0x0000FF05, .bufPush 0xFF),
      (.command 0x00000006, .parse),
      (.bus 0x204 0, .rdStatus),
      (.bus 0x248 0, .rdCmdframe2),
      (.bus 0x27C 0, .rdRsvd7C),
      (.bus 0x284 0x30, .wrStatus 0x30),
      (.bus 0x288 0xABCD1234, .wrCrc 0xABCD1234),
      (.bus 0x280 0x00000007, .wrCmd 0x00000007),
      (.bus 0x080 0x06, .busErr1Byte .write 0x00),
      (.bus 0x104 0, .busErr2Byte .read 0x04),
      (.bus 0x300 0, .busErr8Byte .read 0x00),
      (.bus 0x281 0, .busErrOffLow1 .write 0x01),
      (.bus 0x206 0, .busErrOffLow2 .read 0x06),
      (.bus 0x27F 0, .busErrOffLow3 .read 0x7F)] : List (Entry × Instr)),
    (decode p.1).toOption = some p.2

/-- Decoding the encoding of any well-formed instruction gives that instruction back (30_encoding.md section
3 (R86, R87), 30_encoding.md section 4 (R92)). -/
def Obligations.DecodeOfEncodeIsTheInstruction : Prop :=
  ∀ i : Instr, i.wellFormed = true → decode (encode i) = .ok i

/-- An entry that decodes is the encoding of what it decodes to, up to a write value nobody reads
(30_encoding.md section 3 (R86, R87), 30_encoding.md section 4 (R92)). -/
def Obligations.EachEncodingHasOneMeaning : Prop :=
  (∀ (w : Word) (i : Instr), decode (.command w) = .ok i → i.wellFormed = true ∧ encode i = .command w) ∧
    (∀ (d : BitVec 10) (v : Word), ∃ u : Word,
      (decodeBus d v).wellFormed = true ∧ encode (decodeBus d v) = .bus d u ∧
        (isPerformed (descSize d) (descOff d) = true → descDir d = .write → u = v))

/-- A command word selects the row whose masked bits it has; at most one row matches; a word of no row is
illegal (R87). -/
def Obligations.CommandRowsSelectAtMostOneCommand : Prop :=
  ∀ w : Word,
    let rows : List (Word × Word × Command) :=
      [(0x00000000, 0xFFFFFFFF, .nop), (0x00000001, 0xFFFFFFFF, .crcInit),
       (0x00000002, 0xFFFF00FF, .crcByte (w.extractLsb' 8 8)),
       (0x00000003, 0xFF0000EF, .crcRange (if w.getLsbD 4 then .cmdFrame else .buf)
          (w.extractLsb' 8 8) (w.extractLsb' 16 8)),
       (0x00000004, 0xFFFFFFFF, .bufClear), (0x00000005, 0xFFFF00FF, .bufPush (w.extractLsb' 8 8)),
       (0x00000006, 0xFFFFFFFF, .parse)]
    rows.Pairwise (fun p q => ¬(w &&& p.2.1 = p.1 ∧ w &&& q.2.1 = q.1)) ∧
      (∀ p ∈ rows, w &&& p.2.1 = p.1 → decodeCommand w = .ok p.2.2) ∧
      ((∀ p ∈ rows, w &&& p.2.1 ≠ p.1) → ∃ r, decodeCommand w = .error r)

/-- The illegal command words are exactly those of R90, they set CMD_ERR and nothing else, and NOP is the
only silent word (R90). -/
def Obligations.IllegalWordsAreRejectedAndOnlyThose : Prop :=
  (∀ w : Word, (∃ r, decodeCommand w = .error r) ↔
      let op := (w.extractLsb' 0 4).toNat
      op ≥ 7 ∨ w.extractLsb' 5 3 ≠ 0 ∨ w.extractLsb' 24 8 ≠ 0 ∨
        (op ≠ 3 ∧ w.getLsbD 4 = true) ∨ (op ≠ 3 ∧ w.extractLsb' 16 8 ≠ 0) ∨
        (op ≠ 2 ∧ op ≠ 3 ∧ op ≠ 5 ∧ w.extractLsb' 8 8 ≠ 0)) ∧
    (∀ (w : Word) (r : DecodeError), decodeCommand w = .error r → rejectedWord w) ∧
    (∀ w : Word, (∀ s t : State, exec (.wrCmd w) s = .next t → t.block = s.block) → w = 0x00000000)

/-- NOP changes no state of the block (R130). -/
def Obligations.NopChangesNoState : Prop :=
  decode (.command 0x00000000) = .ok .nop ∧
    (∀ s : State, exec .nop s = .next { s with response := none, index := s.index + 1 }) ∧
    (∀ w : Word, w.extractLsb' 0 4 = 0 → w ≠ 0x00000000 → rejectedWord w)

/-- CRC_INIT sets CRC to 0xFFFF and changes nothing else (R115). -/
def Obligations.CrcInitPutsFFFFIntoTheAccumulator : Prop :=
  decode (.command 0x00000001) = .ok .crcInit ∧
    (∀ s : State, exec .crcInit s =
      .next { s with block := { s.block with crc := 0xFFFF }, response := none, index := s.index + 1 }) ∧
    (∀ w : Word, w.extractLsb' 0 4 = 1 → w ≠ 0x00000001 → rejectedWord w)

/-- CRC_BYTE feeds one byte to the accumulator, and CRC_INIT then CRC_BYTEs compute crc16 (R116). -/
def Obligations.CrcByteFeedsBytesIncrementally : Prop :=
  (∀ a : Byte, decode (.command (0x00000002#32 ||| (a.setWidth 32 <<< 8))) = .ok (.crcByte a)) ∧
    (∀ (a : Byte) (s : State), exec (.crcByte a) s =
      .next { s with block := { s.block with crc := crcStep s.block.crc a }, response := none, index := s.index + 1 }) ∧
    (∀ w : Word, w.extractLsb' 0 4 = 2 →
      (w.getLsbD 4 = true ∨ w.extractLsb' 5 3 ≠ 0 ∨ w.extractLsb' 16 8 ≠ 0 ∨ w.extractLsb' 24 8 ≠ 0) →
      rejectedWord w) ∧
    (∀ (d : List Byte) (s : State), ∃ t : State,
      execAll (.crcInit :: d.map Instr.crcByte) s = .next t ∧
        t.block = { s.block with crc := crc16 d }) ∧
    crcStep (crcStep 0xFFFF 0xFF) 0xFF = 0x0000 ∧ crcStep 0xFFFF 0x0A = 0x40BA

/-- CRC_RANGE computes crc16 of a range inside the valid bytes, and sets CMD_ERR for any other (R117). -/
def Obligations.CrcRangeChecksThenComputes : Prop :=
  (∀ a len : Byte,
      decode (.command (0x00000003#32 ||| (a.setWidth 32 <<< 8) ||| (len.setWidth 32 <<< 16))) =
          .ok (.crcRange .buf a len) ∧
        decode (.command (0x00000013#32 ||| (a.setWidth 32 <<< 8) ||| (len.setWidth 32 <<< 16))) =
          .ok (.crcRange .cmdFrame a len)) ∧
    (∀ (a len : Byte) (s : State), exec (.crcRange .buf a len) s =
      if a.toNat + len.toNat > s.block.count.toNat then
        .next { s with block := { s.block with cmdErr := true }, response := none, index := s.index + 1 }
      else
        .next { s with
          block := { s.block with crc := crc16 ((s.block.buf.toList.drop a.toNat).take len.toNat) }
          response := none, index := s.index + 1 }) ∧
    (∀ (a len : Byte) (s : State), exec (.crcRange .cmdFrame a len) s =
      if a.toNat + len.toNat > 10 then
        .next { s with block := { s.block with cmdErr := true }, response := none, index := s.index + 1 }
      else
        .next { s with
          block := { s.block with
            crc := crc16 ((([0x0A, 0x24, 0x00, 0x00, 0x00, 0x00, 0x00, 0x00, 0x0F, 0x72] : List Byte).drop
              a.toNat).take len.toNat) }
          response := none, index := s.index + 1 }) ∧
    (∀ s t : State, s.block.count = 15 → acceptedFrame s.block.buf →
      exec (.crcRange .buf 2 11) s = .next t → t.block.crc = u16 s.block.buf[13] s.block.buf[14]) ∧
    (∀ s t : State, exec (.crcRange .cmdFrame 0 8) s = .next t → t.block.crc = 0x0F72)

/-- CRC_RANGE on BUF does not depend on the buffer bytes at COUNT and above, nor on the old CRC when it
computes (40_crc.md section 2 (R117)). -/
def Obligations.CrcRangeReadsNoByteBeyondCount : Prop :=
  ∀ (s s' : State) (a len : Byte),
    s.block.count = s'.block.count → s.block.cmdErr = s'.block.cmdErr →
    (∀ (i : Nat) (h : i < 15), i < s.block.count.toNat → s.block.buf[i] = s'.block.buf[i]) →
    ∃ t t' : State, exec (.crcRange .buf a len) s = .next t ∧ exec (.crcRange .buf a len) s' = .next t' ∧
      t.block.cmdErr = t'.block.cmdErr ∧
      (a.toNat + len.toNat ≤ s.block.count.toNat → t.block.crc = t'.block.crc) ∧
      (s.block.count.toNat < a.toNat + len.toNat → t.block.crc = s.block.crc ∧ t'.block.crc = s'.block.crc)

/-- BUF_CLEAR sets COUNT to 0 and every buffer byte to 0x00 (R131). -/
def Obligations.BufClearZeroesTheBuffer : Prop :=
  decode (.command 0x00000004) = .ok .bufClear ∧
    ∀ s : State, ∃ t : State, exec .bufClear s = .next t ∧
      t = { s with
        block := { s.block with
          count := 0
          buf := #v[0, 0, 0, 0, 0, 0, 0, 0, 0, 0, 0, 0, 0, 0, 0] }
        response := none, index := s.index + 1 } ∧
      ∀ r ∈ [Register.buf0, .buf1, .buf2, .buf3], t.block.readRegister r = 0x00000000

/-- BUF_PUSH appends a byte below COUNT = 15 and drops it with OVF at COUNT = 15 (R132). -/
def Obligations.BufPushAppendsOrDrops : Prop :=
  (∀ a : Byte, decode (.command (0x00000005#32 ||| (a.setWidth 32 <<< 8))) = .ok (.bufPush a)) ∧
    (∀ (a : Byte) (s : State), s.block.count.toNat < 15 → ∃ b : Vector Byte 15,
      exec (.bufPush a) s =
        .next { s with block := { s.block with buf := b, count := s.block.count + 1 }, response := none, index := s.index + 1 } ∧
      (s.block.count + 1).toNat = s.block.count.toNat + 1 ∧
      ∀ (i : Nat) (h : i < 15), b[i] = if i = s.block.count.toNat then a else s.block.buf[i]) ∧
    (∀ (a : Byte) (s : State), s.block.count.toNat = 15 →
      exec (.bufPush a) s = .next { s with block := { s.block with ovf := true }, response := none, index := s.index + 1 }) ∧
    (∀ w : Word, w.extractLsb' 0 4 = 5 →
      (w.getLsbD 4 = true ∨ w.extractLsb' 5 3 ≠ 0 ∨ w.extractLsb' 16 8 ≠ 0 ∨ w.extractLsb' 24 8 ≠ 0) →
      rejectedWord w)

/-- PARSE gives the four results of its procedure in order and latches the fields only on OK (R133, R137). -/
def Obligations.ParseValidatesAndLatches : Prop :=
  decode (.command 0x00000006) = .ok .parse ∧
    (∀ s : State, exec .parse s =
      .next { s with
        block :=
          if s.block.count.toNat < 15 then { s.block with pres := .frameTooShort }
          else if s.block.buf[0] ≠ 0x0A then { s.block with pres := .badStartByte }
          else
            let computed := crc16 ((s.block.buf.toList.drop 2).take 11)
            let received := u16 s.block.buf[13] s.block.buf[14]
            if computed ≠ received then
              { s.block with calcCrc := computed, recvCrc := received, pres := .checksumMismatch }
            else
              { s.block with
                calcCrc := computed
                recvCrc := received
                sample :=
                  { distMm := u16 s.block.buf[5] s.block.buf[6]
                    magnitude := u16 s.block.buf[7] s.block.buf[8]
                    magExp := s.block.buf[9]
                    ambient := s.block.buf[10]
                    precision := u16 s.block.buf[11] s.block.buf[12] }
                pres := .ok }
        response := none, index := s.index + 1 }) ∧
    ParseResult.ok.code = 1 ∧ ParseResult.frameTooShort.code = 2 ∧ ParseResult.badStartByte.code = 3 ∧
    ParseResult.checksumMismatch.code = 4 ∧
    (∀ w : Word, w.extractLsb' 0 4 = 6 → w ≠ 0x00000006 → rejectedWord w) ∧
    (∀ s t : State, s.block.count = 15 →
      s.block.buf = #v[0x0A, 0x0D, 0x00, 0x00, 0x00, 0x06, 0xD9, 0x01, 0x2C, 0x03, 0x40, 0x00, 0x64, 0x52,
        0x0A] →
      exec .parse s = .next t →
      t.block.pres = .ok ∧ t.block.sample.distMm = 0x06D9 ∧ t.block.calcCrc = 0x520A ∧
        t.block.recvCrc = 0x520A)

/-- The result of PARSE and every value it writes depend on COUNT and BUF alone (R142). -/
def Obligations.ParseDependsOnTheBufferAlone : Prop :=
  ∀ s s' : State, s.block.count = s'.block.count → s.block.buf = s'.block.buf →
    ∃ t t' : State, exec .parse s = .next t ∧ exec .parse s' = .next t' ∧
      t.block.pres = t'.block.pres ∧
      (t.block.pres = .ok ∨ t.block.pres = .checksumMismatch →
        t.block.calcCrc = t'.block.calcCrc ∧ t.block.recvCrc = t'.block.recvCrc) ∧
      (t.block.pres = .ok → t.block.sample = t'.block.sample)

/-- PARSE accepts or rejects a full buffer without regard to the length byte (41_frame.md section 2 (R139)). -/
def Obligations.ParseDoesNotCheckTheLengthByte : Prop :=
  ∀ (s t : State) (x : Byte), exec .parse s = .next t →
    exec .parse { s with block := { s.block with buf := s.block.buf.set 1 x } } =
      .next { t with block := { t.block with buf := s.block.buf.set 1 x } }

/-- PARSE accepts every distance value and latches it unchanged (R138). -/
def Obligations.EveryDistanceIsAccepted : Prop :=
  ∀ (d : Half) (f g : Vector Byte 15) (s : State),
    f[0] = 0x0A → f[5] = d.extractLsb' 8 8 → f[6] = d.extractLsb' 0 8 →
    g = (f.set 13 ((crc16 ((f.toList.drop 2).take 11)).extractLsb' 8 8)).set 14
      ((crc16 ((f.toList.drop 2).take 11)).extractLsb' 0 8) →
    s.block.count = 15 → s.block.buf = g →
    ∃ t : State, exec .parse s = .next t ∧ t.block.pres = .ok ∧ t.block.sample.distMm = d

/-- Every single-bit flip of an accepted frame gives the result the spec names for its byte (R140). -/
def Obligations.SingleBitFlipsOfAnAcceptedFrame : Prop :=
  ∀ (s t : State) (i k : Nat) (hi : i < 15), k < 8 → exec .parse s = .next t → t.block.pres = .ok →
    ∃ t' : State,
      exec .parse { s with block := { s.block with
          buf := s.block.buf.set i (s.block.buf[i] ^^^ (1#8 <<< k)) } } = .next t' ∧
        if i = 0 then t'.block.pres = .badStartByte
        else if i = 1 then t'.block.pres = .ok ∧ t'.block.sample = t.block.sample
        else t'.block.pres = .checksumMismatch

/-- crc_step is linear over XOR (40_crc.md section 1 (R113 (a))). -/
def Obligations.CrcStepIsLinear : Prop :=
  (∀ (c1 c2 : Half) (b1 b2 : Byte),
      crcStep (c1 ^^^ c2) (b1 ^^^ b2) = crcStep c1 b1 ^^^ crcStep c2 b2) ∧
    crcStep 0x0000 0x00 = 0x0000

/-- A byte sequence followed by its own CRC has CRC zero (40_crc.md section 1 (R113 (b))). -/
def Obligations.CrcOfDataAndItsCrcIsZero : Prop :=
  (∀ (d : List Byte) (h l : Byte), u16 h l = crc16 d → crc16 (d ++ [h, l]) = 0x0000) ∧
    (∀ f : Vector Byte 15, acceptedFrame f → crc16 (f.toList.drop 2) = 0x0000) ∧
    crc16 Config.cmdFrame = 0x0000

/-- Two sequences of equal length that differ in exactly one bit have different CRCs (40_crc.md section 1
(R113 (c))). -/
def Obligations.CrcDetectsEverySingleBitError : Prop :=
  ∀ (d e : List Byte) (a : Byte) (k : Nat), k < 8 →
    crc16 (d ++ (a ^^^ (1#8 <<< k)) :: e) ≠ crc16 (d ++ a :: e)

/-- Two leading 0xFF bytes turn crc16 into the CRC from a zero register (40_crc.md section 1 (R113 (d))). -/
def Obligations.CrcOfFFFFPrefixStartsFromZero : Prop :=
  crc16 [0xFF, 0xFF] = 0x0000 ∧
    ∀ d : List Byte, crc16 ([0xFF, 0xFF] ++ d) = d.foldl crcStep 0x0000

/-- The table form of the byte step equals the bit-serial one on all inputs (R114). -/
def Obligations.TableFormEqualsBitSerialStep : Prop :=
  (∀ (c : Half) (b : Byte), crcStep c b = (c <<< 8) ^^^ crcStep 0x0000 ((c >>> 8).setWidth 8 ^^^ b)) ∧
    (∀ (c : Half) (b : Byte), crcStepTable c b = crcStep c b) ∧
    ∀ p ∈ ([
      (0x00, 0x0000), (0x01, 0x1021), (0x02, 0x2042), (0x04, 0x4084), (0x08, 0x8108), (0x10, 0x1231),
      (0x20, 0x2462), (0x40, 0x48C4), (0x80, 0x9188), (0x0A, 0xA14A), (0x24, 0x64E6), (0xFF, 0x1EF0)] : List (Byte × Half)),
      crcStep 0x0000 p.1 = p.2

/-- The command frame carries the CRC of its first eight bytes, 0x0F72 (R118). -/
def Obligations.CommandFrameChecksum : Prop :=
  crc16 [0x0A, 0x24, 0x00, 0x00, 0x00, 0x00, 0x00, 0x00] = 0x0F72 ∧
    crc16 (Config.cmdFrame.take 8) = 0x0F72 ∧
    u16 (Config.cmdFrame.getD 8 0) (Config.cmdFrame.getD 9 0) = 0x0F72 ∧
    ([1, 2, 3, 4, 5, 6, 7, 8].map fun n => crc16 (Config.cmdFrame.take n)) =
      [0x40BA, 0x9622, 0xC17F, 0xB66D, 0xAA1D, 0x09A0, 0x3129, 0x0F72] ∧
    crc16 Config.cmdFrame = 0x0000

/-- Reads of CMD, STATUS, CRC and COUNT return their values and change nothing (R160, R162, R166). -/
def Obligations.ReadsOfTheControlRegisters : Prop :=
  (∀ v : Word, decode (.bus 0x200 v) = .ok .rdCmd) ∧
    (∀ s : State, exec .rdCmd s =
      .next { s with response := some (0x00000000), index := s.index + 1 }) ∧
    (∀ v : Word, decode (.bus 0x204 v) = .ok .rdStatus) ∧
    (∀ s : State, exec .rdStatus s =
      .next { s with response := some (s.block.pres.code.setWidth 32 ||| ((if s.block.cmdErr then (1 : Word) else 0) <<< 4)
          ||| ((if s.block.ovf then (1 : Word) else 0) <<< 5)), index := s.index + 1 }) ∧
    (∀ v : Word, decode (.bus 0x208 v) = .ok .rdCrc) ∧
    (∀ s : State, exec .rdCrc s =
      .next { s with response := some (s.block.crc.setWidth 32), index := s.index + 1 }) ∧
    (∀ v : Word, decode (.bus 0x20C v) = .ok .rdCount) ∧
    (∀ s : State, exec .rdCount s =
      .next { s with response := some (s.block.count.setWidth 32), index := s.index + 1 }) ∧
    (∀ s : State, s.block.count.toNat ≤ 15) ∧ State.reset.block.status = 0x00000000

/-- Each byte of BUF0 to BUF3 is its buffer byte, and index 15 reads 0 (R35, R168). -/
def Obligations.BufWordsPackFourBytesEach : Prop :=
  ∀ p ∈ ([(0, 0x210, .rdBuf0), (1, 0x214, .rdBuf1), (2, 0x218, .rdBuf2), (3, 0x21C, .rdBuf3)] :
      List (Nat × BitVec 10 × Instr)),
    (∀ v : Word, decode (.bus p.2.1 v) = .ok p.2.2) ∧
    (∀ s : State, ∃ x : Word,
      exec p.2.2 s = .next { s with response := some x, index := s.index + 1 } ∧
      (∀ k < 4, x.extractLsb' (8 * k) 8 =
        if h : 4 * p.1 + k < 15 then s.block.buf[4 * p.1 + k] else 0x00) ∧
      (∀ y : Nat → Byte, (∀ (i : Nat) (h : i < 15), y i = s.block.buf[i]) → y 15 = 0x00 →
        x = ((y (4 * p.1)).setWidth 32 ||| ((y (4 * p.1 + 1)).setWidth 32 <<< 8)
          ||| ((y (4 * p.1 + 2)).setWidth 32 <<< 16) ||| ((y (4 * p.1 + 3)).setWidth 32 <<< 24))) ∧
      (s.block = State.reset.block → x = 0x00000000) ∧
      (s.block.Inv → ∀ k < 4, s.block.count.toNat ≤ 4 * p.1 + k → x.extractLsb' (8 * k) 8 = 0x00))

/-- Reads of DIST, MAG, AMBIENT, PRECISION and FRAME_CRC return the latched fields (42_register_access.md
section 2 (R169, R170, R171, R172, R173), 10_state.md section 3 (R36 to R40)). -/
def Obligations.ReadsOfTheResultRegisters : Prop :=
  (∀ v : Word, decode (.bus 0x220 v) = .ok .rdDist) ∧
    (∀ s : State, exec .rdDist s =
      .next { s with response := some (s.block.sample.distMm.setWidth 32), index := s.index + 1 }) ∧
    (∀ v : Word, decode (.bus 0x224 v) = .ok .rdMag) ∧
    (∀ s : State, exec .rdMag s =
      .next { s with response := some (s.block.sample.magnitude.setWidth 32
        ||| (s.block.sample.magExp.setWidth 32 <<< 16)), index := s.index + 1 }) ∧
    (∀ v : Word, decode (.bus 0x228 v) = .ok .rdAmbient) ∧
    (∀ s : State, exec .rdAmbient s =
      .next { s with response := some (s.block.sample.ambient.setWidth 32), index := s.index + 1 }) ∧
    (∀ v : Word, decode (.bus 0x22C v) = .ok .rdPrecision) ∧
    (∀ s : State, exec .rdPrecision s =
      .next { s with response := some (s.block.sample.precision.setWidth 32), index := s.index + 1 }) ∧
    (∀ v : Word, decode (.bus 0x230 v) = .ok .rdFrameCrc) ∧
    (∀ s : State, exec .rdFrameCrc s =
      .next { s with response := some (s.block.calcCrc.setWidth 32 ||| (s.block.recvCrc.setWidth 32 <<< 16)), index := s.index + 1 })

/-- CMDFRAME0 to CMDFRAME2 read the packed constant in every state (R174, R41). -/
def Obligations.ReadsOfTheCommandFrameConstant : Prop :=
  (∀ v : Word, decode (.bus 0x240 v) = .ok .rdCmdframe0) ∧
    (∀ s : State, exec .rdCmdframe0 s =
      .next { s with response := some (0x0000240A), index := s.index + 1 }) ∧
    (∀ v : Word, decode (.bus 0x244 v) = .ok .rdCmdframe1) ∧
    (∀ s : State, exec .rdCmdframe1 s =
      .next { s with response := some (0x00000000), index := s.index + 1 }) ∧
    (∀ v : Word, decode (.bus 0x248 v) = .ok .rdCmdframe2) ∧
    (∀ s : State, exec .rdCmdframe2 s =
      .next { s with response := some (0x0000720F), index := s.index + 1 }) ∧
    (∀ p ∈ ([(0, 0x0000240A), (1, 0x00000000), (2, 0x0000720F)] : List (Nat × Word)), ∀ k < 4,
      p.2.extractLsb' (8 * k) 8 = Config.cmdFrame.getD (4 * p.1 + k) 0x00) ∧
    Config.cmdFrame = [0x0A, 0x24, 0x00, 0x00, 0x00, 0x00, 0x00, 0x00, 0x0F, 0x72]

/-- Every reserved offset reads 0x00000000 without an error (R175). -/
def Obligations.ReadsOfReservedOffsetsReturnZero : Prop :=
  ∀ p ∈ ([
      (0x234, .rdRsvd34), (0x238, .rdRsvd38), (0x23C, .rdRsvd3C), (0x24C, .rdRsvd4C),
      (0x250, .rdRsvd50), (0x254, .rdRsvd54), (0x258, .rdRsvd58), (0x25C, .rdRsvd5C),
      (0x260, .rdRsvd60), (0x264, .rdRsvd64), (0x268, .rdRsvd68), (0x26C, .rdRsvd6C),
      (0x270, .rdRsvd70), (0x274, .rdRsvd74), (0x278, .rdRsvd78), (0x27C, .rdRsvd7C)] : List (BitVec 10 × Instr)),
    (∀ v : Word, decode (.bus p.1 v) = .ok p.2) ∧
    ∀ s : State, exec p.2 s = .next { s with response := some 0x00000000, index := s.index + 1 }

/-- A write to CMD does what the command its word selects does, or sets CMD_ERR (R88). -/
def Obligations.WriteCmdRunsTheDecodedCommand : Prop :=
  (∀ w : Word, decode (.bus 0x280 w) = .ok (.wrCmd w)) ∧
    (∀ (w : Word) (c : Command) (s : State), decodeCommand w = .ok c →
      (∃ t, exec (.wrCmd w) s = .next t) ∧ exec (.wrCmd w) s = exec c.toInstr s) ∧
    (∀ (w : Word) (r : DecodeError) (s : State), decodeCommand w = .error r →
      exec (.wrCmd w) s = .next { s with block := { s.block with cmdErr := true }, response := none, index := s.index + 1 })

/-- A command word given on its own does what the bus write to CMD that carries it does (30_encoding.md
section 2 (R84), 42_register_access.md section 1 (R161)).
That a list may hold a command word on its own is the model's choice, log entry 2. -/
def Obligations.CommandWordAndBusWriteAgree : Prop :=
  ∀ (w : Word) (s s' : State), s.nextIs (.command w) → s'.nextIs (.bus 0x280 w) →
    s.block = s'.block → s.index = s'.index →
    ∃ t t' : State, step s = .next t ∧ step s' = .next t' ∧ t.block = t'.block ∧
      t.response = t'.response ∧ t.index = t'.index ∧ t.mark = none ∧ t'.mark = none

/-- A write to STATUS clears CMD_ERR and OVF where its bits 4 and 5 are 1, and nothing else (R163). -/
def Obligations.WriteStatusClearsStickyFlags : Prop :=
  (∀ v : Word, decode (.bus 0x284 v) = .ok (.wrStatus v)) ∧
    (∀ (v : Word) (s : State), ∃ t : State, exec (.wrStatus v) s = .next t ∧
      t = { s with
        block := { s.block with
          cmdErr := if v.getLsbD 4 = true then false else s.block.cmdErr
          ovf := if v.getLsbD 5 = true then false else s.block.ovf }
        response := none, index := s.index + 1 } ∧
      t.block.status = s.block.status &&& ~~~(v &&& 0x00000030) ∧
      (v = 0x00000000 → t.block = s.block))

/-- A write to CRC takes the low 16 bits, which PARSE and a computing CRC_RANGE ignore (R165). -/
def Obligations.WriteCrcSeedsTheAccumulator : Prop :=
  (∀ v : Word, decode (.bus 0x288 v) = .ok (.wrCrc v)) ∧
    (∀ (v : Word) (s : State), exec (.wrCrc v) s =
      .next { s with block := { s.block with crc := v.extractLsb' 0 16 }, response := none, index := s.index + 1 }) ∧
    (∀ (v : Word) (a : Byte) (s : State), ∃ t : State,
      execAll [.wrCrc v, .crcByte a] s = .next t ∧ t.block.crc = crcStep (v.extractLsb' 0 16) a) ∧
    (∀ (c : Half) (b : Block), ({ b with crc := c } : Block).parse = { b.parse with crc := c }) ∧
    (∀ (c : Half) (b : Block) (src : CrcSource) (a len : Byte),
      a.toNat + len.toNat ≤ b.sourceLimit src →
      ({ b with crc := c } : Block).crcRange src a len = b.crcRange src a len)

/-- A write to a read-only or reserved offset changes nothing (R167). -/
def Obligations.WritesElsewhereAreIgnored : Prop :=
  ∀ p ∈ ([
      (0x28C, .wrCount), (0x290, .wrBuf0), (0x294, .wrBuf1),
      (0x298, .wrBuf2), (0x29C, .wrBuf3), (0x2A0, .wrDist),
      (0x2A4, .wrMag), (0x2A8, .wrAmbient), (0x2AC, .wrPrecision),
      (0x2B0, .wrFrameCrc), (0x2B4, .wrRsvd34), (0x2B8, .wrRsvd38),
      (0x2BC, .wrRsvd3C), (0x2C0, .wrCmdframe0), (0x2C4, .wrCmdframe1),
      (0x2C8, .wrCmdframe2), (0x2CC, .wrRsvd4C), (0x2D0, .wrRsvd50),
      (0x2D4, .wrRsvd54), (0x2D8, .wrRsvd58), (0x2DC, .wrRsvd5C),
      (0x2E0, .wrRsvd60), (0x2E4, .wrRsvd64), (0x2E8, .wrRsvd68),
      (0x2EC, .wrRsvd6C), (0x2F0, .wrRsvd70), (0x2F4, .wrRsvd74),
      (0x2F8, .wrRsvd78), (0x2FC, .wrRsvd7C)] :
      List (BitVec 10 × (Word → Instr))),
    (∀ v : Word, decode (.bus p.1 v) = .ok (p.2 v)) ∧
    ∀ (v : Word) (s : State), exec (p.2 v) s = .next { s with response := none, index := s.index + 1 }

/-- Exactly the transactions of a size other than 4 or a misaligned offset end in BusError, with no effect
on the block (20_memory.md section 2 (R62), 30_encoding.md section 4 (R92)).
That the BusError is a mark in a next state, and only the following step the fault, is the model's
choice, log entry 1. -/
def Obligations.NonPerformedTransactionsAreBusErrors : Prop :=
  ∀ (s : State) (d : BitVec 10) (v : Word), s.nextIs (.bus d v) →
    let z := d.extractLsb' 8 2
    let off := d.extractLsb' 0 7
    let dir := if d.getLsbD 7 then Dir.write else Dir.read
    (z ≠ 2 ∨ off.toNat % 4 ≠ 0 →
      ∃ size : AccessSize, size.bytes = 2 ^ z.toNat ∧
        step s = .next { s with
          response := none, index := s.index + 1, mark := some { off := off, size := size, dir := dir } }) ∧
    (z = 2 → off.toNat % 4 = 0 → ∃ t : State, step s = .next t ∧ t.mark = none ∧ t.index = s.index + 1)

/-- The six BusError rows end in BusError(off, size, dir) with no change of the block (42_register_access.md
section 2 (R176), 60_exceptions.md section 1 (R196)).
That the run is marked in a next state, and only the following step is the fault, is the model's choice,
log entry 1. -/
def Obligations.BusErrorRowsRaiseBusError : Prop :=
  ∀ (s : State) (dir : Dir) (off : BitVec 7),
    ∀ p ∈ [(AccessSize.one, Instr.busErr1Byte dir off), (.two, .busErr2Byte dir off),
        (.eight, .busErr8Byte dir off), (.four, .busErrOffLow1 dir off), (.four, .busErrOffLow2 dir off),
        (.four, .busErrOffLow3 dir off)],
      exec p.2 s =
        .next { s with response := none, index := s.index + 1,
                       mark := some { off := off, size := p.1, dir := dir } }

/-- A BusError is final: every later step is the fault, and no instruction clears the mark (60_exceptions.md
section 1 (R196)).
The form of the mark is the model's choice, log entry 1. -/
def Obligations.BusErrorIsFinal : Prop :=
  (∀ (s : State) (f : BusFault), s.mark = some f → step s = .fault (.busError f.off f.size f.dir)) ∧
    (∀ (i : Instr) (s t : State), exec i s = .next t → s.mark ≠ none → t.mark ≠ none) ∧
    (∀ (n : Nat) (s t : State), Sys2Proof.core.run (n + 1) s = .next t → s.mark = none)

/-- Every instruction of the opcode table answers a next state in every state (93_implementation_defined.md
part 1, 10_state.md section 1 (R21)).
For the six BusError rows this is the model's choice, log entry 1. -/
def Obligations.EveryInstructionAnswersANextState : Prop :=
  ∀ (i : Instr) (s : State), ∃ t : State, exec i s = .next t ∧
    t.index = s.index + 1 ∧ t.program = s.program ∧ t.resets = s.resets

/-- The index goes up by exactly one with every transaction, a BusError included, and not with a reset
(10_state.md section 1 (R21)).
The mark, the pending resets and the refusal at the run's end are the model's choices, log entries 1, 4
and 6. -/
def Obligations.OnlyTransactionsMoveTheIndex : Prop :=
  (∀ s t : State, step s = .next t →
      t.program = s.program ∧
        (s.resetDue = true → t.index = s.index) ∧
        (s.resetDue = false → s.index < s.program.length ∧ t.index = s.index + 1)) ∧
    (∀ s : State, step s = .refused .runEnded ↔
      s.mark = none ∧ s.resetDue = false ∧ s.program.length ≤ s.index) ∧
    (∀ (i : Instr) (s t : State) (n : Nat), exec i s = .next t →
      exec i { s with index := n } = .next { t with index := n + 1 }) ∧
    State.reset.index = 0

/-- A run is the fold of its transactions over the block, in order (20_memory.md section 4 (R69),
30_encoding.md section 2 (R84)).
This holds whether a command is given as a command word or as a bus write, the first being the model's
choice, log entry 2. That no reset event is to come is said of the list in which the model, by its own
choice, holds them, log entry 4. -/
def Obligations.RunIsTheFoldOfItsTransactions : Prop :=
  ∀ (s : State) (k : Nat), s.mark = none → s.resets = [] → s.index + k ≤ s.program.length →
    (∀ e ∈ (s.program.drop s.index).take k,
      isPerformed e.transaction.size e.transaction.off = true) →
    ∃ t : State, Sys2Proof.core.run k s = .next t ∧
      t.block = (((s.program.drop s.index).take k).map Entry.transaction).foldl Block.transact s.block ∧
      t.index = s.index + k ∧ t.program = s.program ∧ t.mark = none ∧ t.resets = []

/-- No read changes the block, and two reads of one register with no write between them return the same
(20_memory.md section 2 (R66)).
That no reset event comes between the two reads is said of the list in which the model, by its own
choice, holds them, log entry 4. -/
def Obligations.ReadsHaveNoSideEffects : Prop :=
  (∀ (s : State) (d : BitVec 10) (v : Word), s.nextIs (.bus d v) → descDir d = .read →
      ∃ t : State, step s = .next t ∧ t.block = s.block) ∧
    (∀ (s s' : State) (d : BitVec 10) (v v' : Word), descDir d = .read →
      s.nextIs (.bus d v) → s'.nextIs (.bus d v') → s.block = s'.block →
      ∃ t t' : State, step s = .next t ∧ step s' = .next t' ∧ t.response = t'.response) ∧
    (∀ (s : State) (k : Nat) (d : BitVec 10) (v v' : Word), s.mark = none → s.resets = [] →
      descDir d = .read → isPerformed (descSize d) (descOff d) = true →
      s.program[s.index]? = some (.bus d v) → s.program[s.index + 1 + k]? = some (.bus d v') →
      (∀ e ∈ (s.program.drop (s.index + 1)).take k,
        e.transaction.dir = .read ∧ isPerformed e.transaction.size e.transaction.off = true) →
      ∃ (t u : State) (x : Word),
        Sys2Proof.core.run 1 s = .next t ∧ Sys2Proof.core.run (k + 2) s = .next u ∧
          t.response = some x ∧ u.response = some x ∧ t.block = s.block ∧ u.block = s.block)

/-- CRC changes only by CRC_INIT, CRC_BYTE, CRC_RANGE and a write to the CRC register (10_state.md section 2
(R22), 41_frame.md section 2 (R137)). -/
def Obligations.OnlyCrcInstructionsWriteTheAccumulator : Prop :=
  ∀ (i : Instr) (s t : State), exec i s = .next t → t.block.crc ≠ s.block.crc →
    (∃ v, i = .wrCrc v) ∨ carriedCommand i = some .crcInit ∨
      (∃ a, carriedCommand i = some (.crcByte a)) ∨
      (∃ src a len, carriedCommand i = some (.crcRange src a len))

/-- BUF and COUNT change only by BUF_CLEAR and BUF_PUSH (10_state.md section 2 (R23)). -/
def Obligations.OnlyBufferCommandsWriteTheBuffer : Prop :=
  ∀ (i : Instr) (s t : State), exec i s = .next t →
    (t.block.buf ≠ s.block.buf ∨ t.block.count ≠ s.block.count →
      carriedCommand i = some .bufClear ∨ ∃ a, carriedCommand i = some (.bufPush a)) ∧
    (∀ a, carriedCommand i = some (.bufPush a) →
      ∀ (j : Nat) (h : j < 15), j ≠ s.block.count.toNat → t.block.buf[j] = s.block.buf[j])

/-- PRES, the checksums and the sample fields are written by PARSE alone, the sample only on OK (R25). -/
def Obligations.SampleFieldsChangeOnlyOnAcceptedParse : Prop :=
  ∀ (i : Instr) (s t : State), exec i s = .next t →
    (t.block.pres ≠ s.block.pres ∨ t.block.calcCrc ≠ s.block.calcCrc ∨
        t.block.recvCrc ≠ s.block.recvCrc ∨ t.block.sample ≠ s.block.sample →
      carriedCommand i = some .parse) ∧
    (t.block.calcCrc ≠ s.block.calcCrc ∨ t.block.recvCrc ≠ s.block.recvCrc →
      t.block.pres = .ok ∨ t.block.pres = .checksumMismatch) ∧
    (t.block.sample ≠ s.block.sample → t.block.pres = .ok) ∧
    (carriedCommand i = some .parse → t.block.pres = .ok →
      t.block.sample = { distMm := u16 s.block.buf[5] s.block.buf[6]
                         magnitude := u16 s.block.buf[7] s.block.buf[8]
                         magExp := s.block.buf[9]
                         ambient := s.block.buf[10]
                         precision := u16 s.block.buf[11] s.block.buf[12] }) ∧
    State.reset.block.sample = { distMm := 0, magnitude := 0, magExp := 0, ambient := 0, precision := 0 }

/-- CMD_ERR and OVF are set by their conditions and cleared only by a write of 1 to their STATUS bit or by
reset (10_state.md section 2 (R24), 60_exceptions.md section 1 (R194, R195), 60_exceptions.md section 3
(R200)). -/
def Obligations.StickyFlagsAreSetAndClearedByNamedEventsOnly : Prop :=
  ∀ (i : Instr) (s t : State), exec i s = .next t →
    (s.block.cmdErr = true → t.block.cmdErr = false → ∃ v, i = .wrStatus v ∧ v.getLsbD 4 = true) ∧
    (s.block.ovf = true → t.block.ovf = false → ∃ v, i = .wrStatus v ∧ v.getLsbD 5 = true) ∧
    (s.block.cmdErr = false → t.block.cmdErr = true →
      (∃ w r, i = .wrCmd w ∧ decodeCommand w = .error r) ∨
      ∃ src a len, carriedCommand i = some (.crcRange src a len) ∧
        a.toNat + len.toNat > (match src with | .buf => s.block.count.toNat | .cmdFrame => 10)) ∧
    (s.block.ovf = false → t.block.ovf = true →
      s.block.count.toNat = 15 ∧ ∃ a, carriedCommand i = some (.bufPush a)) ∧
    ¬(s.block.cmdErr = false ∧ t.block.cmdErr = true ∧ s.block.ovf = false ∧ t.block.ovf = true)

/-- The assembler turns each statement into its transactions and refuses numbers that do not fit
(30_encoding.md section 5 (R93, R94), 10_state.md section 3 (R30)).
That a pseudo-instruction with an empty byte list is refused is the model's choice, log entry 7. -/
def Obligations.AssembledStatementsAreTheirTransactions : Prop :=
  assemble .nop = some [.command 0x00000000] ∧
    assemble .crcInit = some [.command 0x00000001] ∧
    (∀ n : Nat, assemble (.crcByte n) =
      if n < 256 then some [.command (0x00000002#32 ||| (BitVec.ofNat 32 n <<< 8))] else none) ∧
    (∀ n len : Nat, assemble (.crcRange n len) =
      if n < 256 ∧ len < 256 then
        some [.command (0x00000003#32 ||| (BitVec.ofNat 32 n <<< 8) ||| (BitVec.ofNat 32 len <<< 16))]
      else none) ∧
    (∀ n len : Nat, assemble (.crcRangeRom n len) =
      if n < 256 ∧ len < 256 then
        some [.command (0x00000013#32 ||| (BitVec.ofNat 32 n <<< 8) ||| (BitVec.ofNat 32 len <<< 16))]
      else none) ∧
    assemble .bufClear = some [.command 0x00000004] ∧
    (∀ n : Nat, assemble (.bufPush n) =
      if n < 256 then some [.command (0x00000005#32 ||| (BitVec.ofNat 32 n <<< 8))] else none) ∧
    assemble .parse = some [.command 0x00000006] ∧
    (∀ off : Nat, assemble (.rd (.offset off)) =
      if off % 4 = 0 ∧ off < 0x80 then some [.bus (BitVec.ofNat 10 (0x200 + off)) 0] else none) ∧
    (∀ off n : Nat, assemble (.wr (.offset off) n) =
      if off % 4 = 0 ∧ off < 0x80 ∧ n < 2 ^ 32 then
        some [.bus (BitVec.ofNat 10 (0x280 + off)) (BitVec.ofNat 32 n)]
      else none) ∧
    (∀ p ∈ ([
        (.cmd, 0x00), (.status, 0x04), (.crc, 0x08), (.count, 0x0C), (.buf0, 0x10), (.buf1, 0x14),
        (.buf2, 0x18), (.buf3, 0x1C), (.dist, 0x20), (.mag, 0x24), (.ambient, 0x28), (.precision, 0x2C),
        (.frameCrc, 0x30), (.cmdframe0, 0x40), (.cmdframe1, 0x44), (.cmdframe2, 0x48)] :
        List (Register × Nat)),
      assemble (.rd (.named p.1)) = some [.bus (BitVec.ofNat 10 (0x200 + p.2)) 0] ∧
        ∀ n : Nat, assemble (.wr (.named p.1) n) =
          if n < 2 ^ 32 then some [.bus (BitVec.ofNat 10 (0x280 + p.2)) (BitVec.ofNat 32 n)] else none) ∧
    (∀ n : Nat, assemble (.cmd n) =
      if n < 2 ^ 32 then some [.bus 0x280 (BitVec.ofNat 32 n)] else none) ∧
    (∀ bytes : List Nat, assemble (.crcBytes bytes) =
      if bytes ≠ [] ∧ ∀ n ∈ bytes, n < 256 then
        some (bytes.map fun n => .command (0x00000002#32 ||| (BitVec.ofNat 32 n <<< 8)))
      else none) ∧
    (∀ bytes : List Nat, assemble (.crcOf bytes) =
      if bytes ≠ [] ∧ ∀ n ∈ bytes, n < 256 then
        some (.command 0x00000001 ::
          bytes.map fun n => .command (0x00000002#32 ||| (BitVec.ofNat 32 n <<< 8)))
      else none) ∧
    (∀ bytes : List Nat, assemble (.bufLoad bytes) =
      if bytes ≠ [] ∧ bytes.length ≤ 15 ∧ ∀ n ∈ bytes, n < 256 then
        some (.command 0x00000004 ::
          bytes.map fun n => .command (0x00000005#32 ||| (BitVec.ofNat 32 n <<< 8)))
      else none) ∧
    assemble .statClr = some [.bus 0x284 0x00000030] ∧
    assemble .cmdframeCheck = some [.command 0x00080013]

/-- After BUF_CLEAR the buffer holds the bytes pushed since, in order, the first fifteen of them
(10_state.md section 2 (R23), 41_frame.md section 1 (R131, R132)). -/
def Obligations.PushedBytesFillTheBufferInOrder : Prop :=
  ∀ (d : List Byte) (s : State), ∃ t : State,
    execAll (.bufClear :: d.map Instr.bufPush) s = .next t ∧
      t.block = { s.block with
        count := t.block.count
        buf := t.block.buf
        ovf := s.block.ovf || decide (15 < d.length) } ∧
      t.block.count.toNat = min 15 d.length ∧
      ∀ (i : Nat) (h : i < 15), t.block.buf[i] = d.getD i 0x00

/-- A host access at BASE plus an offset is the transaction at that offset, and no other address is decoded
(00_scope.md section 4 (R9), 20_memory.md section 1 (R60, R61), 30_encoding.md section 2 (R84)). -/
def Obligations.WindowAddressesReachTheirOffsets : Prop :=
  Config.base % 0x80 = 0 ∧
    (∀ (dir : Dir) (off : BitVec 7) (size : AccessSize) (v : Word),
      (hostAccess dir (Config.base + off.toNat) size v).map Entry.transaction =
        some { dir := dir, off := off, size := size, wdata := v }) ∧
    (∀ (dir : Dir) (addr : Nat) (size : AccessSize) (v : Word),
      hostAccess dir addr size v = none ↔ addr < Config.base ∨ Config.base + 0x80 ≤ addr)
end

