-- ==== Sys2Proof/Laws/State.lean ====
section
/-! SUPPORT. One lemma per field per update of the state, so that no proof unfolds an update. -/

namespace Sys2Proof.Machine

/-! ### Updates of the machine -/

@[simp] theorem State.finish_block (s : State) (r : Option Word) (b : Block) :
    (s.finish r b).block = b := rfl
@[simp] theorem State.finish_program (s : State) (r : Option Word) (b : Block) :
    (s.finish r b).program = s.program := rfl
@[simp] theorem State.finish_index (s : State) (r : Option Word) (b : Block) :
    (s.finish r b).index = s.index + 1 := rfl
@[simp] theorem State.finish_resets (s : State) (r : Option Word) (b : Block) :
    (s.finish r b).resets = s.resets := rfl
@[simp] theorem State.finish_response (s : State) (r : Option Word) (b : Block) :
    (s.finish r b).response = r := rfl
@[simp] theorem State.finish_mark (s : State) (r : Option Word) (b : Block) :
    (s.finish r b).mark = s.mark := rfl

@[simp] theorem State.rejectCommand_block (s : State) :
    (s.rejectCommand).block = s.block.setCmdErr := rfl
@[simp] theorem State.rejectCommand_program (s : State) :
    (s.rejectCommand).program = s.program := rfl
@[simp] theorem State.rejectCommand_index (s : State) :
    (s.rejectCommand).index = s.index + 1 := rfl
@[simp] theorem State.rejectCommand_resets (s : State) :
    (s.rejectCommand).resets = s.resets := rfl
@[simp] theorem State.rejectCommand_response (s : State) :
    (s.rejectCommand).response = none := rfl
@[simp] theorem State.rejectCommand_mark (s : State) :
    (s.rejectCommand).mark = s.mark := rfl

@[simp] theorem State.raiseBusError_block (s : State) (off : BitVec 7) (z : AccessSize) (d : Dir) :
    (s.raiseBusError off z d).block = s.block := rfl
@[simp] theorem State.raiseBusError_program (s : State) (off : BitVec 7) (z : AccessSize) (d : Dir) :
    (s.raiseBusError off z d).program = s.program := rfl
@[simp] theorem State.raiseBusError_index (s : State) (off : BitVec 7) (z : AccessSize) (d : Dir) :
    (s.raiseBusError off z d).index = s.index + 1 := rfl
@[simp] theorem State.raiseBusError_resets (s : State) (off : BitVec 7) (z : AccessSize) (d : Dir) :
    (s.raiseBusError off z d).resets = s.resets := rfl
@[simp] theorem State.raiseBusError_response (s : State) (off : BitVec 7) (z : AccessSize) (d : Dir) :
    (s.raiseBusError off z d).response = none := rfl
@[simp] theorem State.raiseBusError_mark (s : State) (off : BitVec 7) (z : AccessSize) (d : Dir) :
    (s.raiseBusError off z d).mark = some { off := off, size := z, dir := d } := rfl

@[simp] theorem State.applyReset_block (s : State) :
    (s.applyReset).block = Block.reset := rfl
@[simp] theorem State.applyReset_program (s : State) :
    (s.applyReset).program = s.program := rfl
@[simp] theorem State.applyReset_index (s : State) :
    (s.applyReset).index = s.index := rfl
@[simp] theorem State.applyReset_resets (s : State) :
    (s.applyReset).resets = s.resets.tail := rfl
@[simp] theorem State.applyReset_response (s : State) :
    (s.applyReset).response = s.response := rfl
@[simp] theorem State.applyReset_mark (s : State) :
    (s.applyReset).mark = s.mark := rfl

/-! ### Updates of the block -/

@[simp] theorem Block.setCmdErr_crc (b : Block) :
    (b.setCmdErr).crc = b.crc := rfl
@[simp] theorem Block.setCmdErr_count (b : Block) :
    (b.setCmdErr).count = b.count := rfl
@[simp] theorem Block.setCmdErr_buf (b : Block) :
    (b.setCmdErr).buf = b.buf := rfl
@[simp] theorem Block.setCmdErr_pres (b : Block) :
    (b.setCmdErr).pres = b.pres := rfl
@[simp] theorem Block.setCmdErr_cmdErr (b : Block) :
    (b.setCmdErr).cmdErr = true := rfl
@[simp] theorem Block.setCmdErr_ovf (b : Block) :
    (b.setCmdErr).ovf = b.ovf := rfl
@[simp] theorem Block.setCmdErr_sample (b : Block) :
    (b.setCmdErr).sample = b.sample := rfl
@[simp] theorem Block.setCmdErr_calcCrc (b : Block) :
    (b.setCmdErr).calcCrc = b.calcCrc := rfl
@[simp] theorem Block.setCmdErr_recvCrc (b : Block) :
    (b.setCmdErr).recvCrc = b.recvCrc := rfl

@[simp] theorem Block.setOvf_crc (b : Block) :
    (b.setOvf).crc = b.crc := rfl
@[simp] theorem Block.setOvf_count (b : Block) :
    (b.setOvf).count = b.count := rfl
@[simp] theorem Block.setOvf_buf (b : Block) :
    (b.setOvf).buf = b.buf := rfl
@[simp] theorem Block.setOvf_pres (b : Block) :
    (b.setOvf).pres = b.pres := rfl
@[simp] theorem Block.setOvf_cmdErr (b : Block) :
    (b.setOvf).cmdErr = b.cmdErr := rfl
@[simp] theorem Block.setOvf_ovf (b : Block) :
    (b.setOvf).ovf = true := rfl
@[simp] theorem Block.setOvf_sample (b : Block) :
    (b.setOvf).sample = b.sample := rfl
@[simp] theorem Block.setOvf_calcCrc (b : Block) :
    (b.setOvf).calcCrc = b.calcCrc := rfl
@[simp] theorem Block.setOvf_recvCrc (b : Block) :
    (b.setOvf).recvCrc = b.recvCrc := rfl

@[simp] theorem Block.clearFlags_crc (b : Block) (v : Word) :
    (b.clearFlags v).crc = b.crc := rfl
@[simp] theorem Block.clearFlags_count (b : Block) (v : Word) :
    (b.clearFlags v).count = b.count := rfl
@[simp] theorem Block.clearFlags_buf (b : Block) (v : Word) :
    (b.clearFlags v).buf = b.buf := rfl
@[simp] theorem Block.clearFlags_pres (b : Block) (v : Word) :
    (b.clearFlags v).pres = b.pres := rfl
@[simp] theorem Block.clearFlags_cmdErr (b : Block) (v : Word) :
    (b.clearFlags v).cmdErr = if v.getLsbD 4 then false else b.cmdErr := rfl
@[simp] theorem Block.clearFlags_ovf (b : Block) (v : Word) :
    (b.clearFlags v).ovf = if v.getLsbD 5 then false else b.ovf := rfl
@[simp] theorem Block.clearFlags_sample (b : Block) (v : Word) :
    (b.clearFlags v).sample = b.sample := rfl
@[simp] theorem Block.clearFlags_calcCrc (b : Block) (v : Word) :
    (b.clearFlags v).calcCrc = b.calcCrc := rfl
@[simp] theorem Block.clearFlags_recvCrc (b : Block) (v : Word) :
    (b.clearFlags v).recvCrc = b.recvCrc := rfl

@[simp] theorem Block.nop_crc (b : Block) :
    (b.nop).crc = b.crc := rfl
@[simp] theorem Block.nop_count (b : Block) :
    (b.nop).count = b.count := rfl
@[simp] theorem Block.nop_buf (b : Block) :
    (b.nop).buf = b.buf := rfl
@[simp] theorem Block.nop_pres (b : Block) :
    (b.nop).pres = b.pres := rfl
@[simp] theorem Block.nop_cmdErr (b : Block) :
    (b.nop).cmdErr = b.cmdErr := rfl
@[simp] theorem Block.nop_ovf (b : Block) :
    (b.nop).ovf = b.ovf := rfl
@[simp] theorem Block.nop_sample (b : Block) :
    (b.nop).sample = b.sample := rfl
@[simp] theorem Block.nop_calcCrc (b : Block) :
    (b.nop).calcCrc = b.calcCrc := rfl
@[simp] theorem Block.nop_recvCrc (b : Block) :
    (b.nop).recvCrc = b.recvCrc := rfl

@[simp] theorem Block.crcInit_crc (b : Block) :
    (b.crcInit).crc = 0xFFFF := rfl
@[simp] theorem Block.crcInit_count (b : Block) :
    (b.crcInit).count = b.count := rfl
@[simp] theorem Block.crcInit_buf (b : Block) :
    (b.crcInit).buf = b.buf := rfl
@[simp] theorem Block.crcInit_pres (b : Block) :
    (b.crcInit).pres = b.pres := rfl
@[simp] theorem Block.crcInit_cmdErr (b : Block) :
    (b.crcInit).cmdErr = b.cmdErr := rfl
@[simp] theorem Block.crcInit_ovf (b : Block) :
    (b.crcInit).ovf = b.ovf := rfl
@[simp] theorem Block.crcInit_sample (b : Block) :
    (b.crcInit).sample = b.sample := rfl
@[simp] theorem Block.crcInit_calcCrc (b : Block) :
    (b.crcInit).calcCrc = b.calcCrc := rfl
@[simp] theorem Block.crcInit_recvCrc (b : Block) :
    (b.crcInit).recvCrc = b.recvCrc := rfl

@[simp] theorem Block.crcByte_crc (b : Block) (a : Byte) :
    (b.crcByte a).crc = crcStep b.crc a := rfl
@[simp] theorem Block.crcByte_count (b : Block) (a : Byte) :
    (b.crcByte a).count = b.count := rfl
@[simp] theorem Block.crcByte_buf (b : Block) (a : Byte) :
    (b.crcByte a).buf = b.buf := rfl
@[simp] theorem Block.crcByte_pres (b : Block) (a : Byte) :
    (b.crcByte a).pres = b.pres := rfl
@[simp] theorem Block.crcByte_cmdErr (b : Block) (a : Byte) :
    (b.crcByte a).cmdErr = b.cmdErr := rfl
@[simp] theorem Block.crcByte_ovf (b : Block) (a : Byte) :
    (b.crcByte a).ovf = b.ovf := rfl
@[simp] theorem Block.crcByte_sample (b : Block) (a : Byte) :
    (b.crcByte a).sample = b.sample := rfl
@[simp] theorem Block.crcByte_calcCrc (b : Block) (a : Byte) :
    (b.crcByte a).calcCrc = b.calcCrc := rfl
@[simp] theorem Block.crcByte_recvCrc (b : Block) (a : Byte) :
    (b.crcByte a).recvCrc = b.recvCrc := rfl

@[simp] theorem Block.bufClear_crc (b : Block) :
    (b.bufClear).crc = b.crc := rfl
@[simp] theorem Block.bufClear_count (b : Block) :
    (b.bufClear).count = 0 := rfl
@[simp] theorem Block.bufClear_buf (b : Block) :
    (b.bufClear).buf = Vector.replicate 15 0x00 := rfl
@[simp] theorem Block.bufClear_pres (b : Block) :
    (b.bufClear).pres = b.pres := rfl
@[simp] theorem Block.bufClear_cmdErr (b : Block) :
    (b.bufClear).cmdErr = b.cmdErr := rfl
@[simp] theorem Block.bufClear_ovf (b : Block) :
    (b.bufClear).ovf = b.ovf := rfl
@[simp] theorem Block.bufClear_sample (b : Block) :
    (b.bufClear).sample = b.sample := rfl
@[simp] theorem Block.bufClear_calcCrc (b : Block) :
    (b.bufClear).calcCrc = b.calcCrc := rfl
@[simp] theorem Block.bufClear_recvCrc (b : Block) :
    (b.bufClear).recvCrc = b.recvCrc := rfl

/-! ### What the operations with cases leave alone -/

@[simp] theorem Block.crcRange_count (b : Block) (src : CrcSource) (a len : Byte) : (b.crcRange src a len).count = b.count := by
  simp only [Block.crcRange]; repeat' split
  all_goals rfl
@[simp] theorem Block.crcRange_buf (b : Block) (src : CrcSource) (a len : Byte) : (b.crcRange src a len).buf = b.buf := by
  simp only [Block.crcRange]; repeat' split
  all_goals rfl
@[simp] theorem Block.crcRange_pres (b : Block) (src : CrcSource) (a len : Byte) : (b.crcRange src a len).pres = b.pres := by
  simp only [Block.crcRange]; repeat' split
  all_goals rfl
@[simp] theorem Block.crcRange_ovf (b : Block) (src : CrcSource) (a len : Byte) : (b.crcRange src a len).ovf = b.ovf := by
  simp only [Block.crcRange]; repeat' split
  all_goals rfl
@[simp] theorem Block.crcRange_sample (b : Block) (src : CrcSource) (a len : Byte) : (b.crcRange src a len).sample = b.sample := by
  simp only [Block.crcRange]; repeat' split
  all_goals rfl
@[simp] theorem Block.crcRange_calcCrc (b : Block) (src : CrcSource) (a len : Byte) : (b.crcRange src a len).calcCrc = b.calcCrc := by
  simp only [Block.crcRange]; repeat' split
  all_goals rfl
@[simp] theorem Block.crcRange_recvCrc (b : Block) (src : CrcSource) (a len : Byte) : (b.crcRange src a len).recvCrc = b.recvCrc := by
  simp only [Block.crcRange]; repeat' split
  all_goals rfl

@[simp] theorem Block.bufPush_crc (b : Block) (a : Byte) : (b.bufPush a).crc = b.crc := by
  simp only [Block.bufPush]; repeat' split
  all_goals rfl
@[simp] theorem Block.bufPush_pres (b : Block) (a : Byte) : (b.bufPush a).pres = b.pres := by
  simp only [Block.bufPush]; repeat' split
  all_goals rfl
@[simp] theorem Block.bufPush_cmdErr (b : Block) (a : Byte) : (b.bufPush a).cmdErr = b.cmdErr := by
  simp only [Block.bufPush]; repeat' split
  all_goals rfl
@[simp] theorem Block.bufPush_sample (b : Block) (a : Byte) : (b.bufPush a).sample = b.sample := by
  simp only [Block.bufPush]; repeat' split
  all_goals rfl
@[simp] theorem Block.bufPush_calcCrc (b : Block) (a : Byte) : (b.bufPush a).calcCrc = b.calcCrc := by
  simp only [Block.bufPush]; repeat' split
  all_goals rfl
@[simp] theorem Block.bufPush_recvCrc (b : Block) (a : Byte) : (b.bufPush a).recvCrc = b.recvCrc := by
  simp only [Block.bufPush]; repeat' split
  all_goals rfl

@[simp] theorem Block.parse_crc (b : Block) : (b.parse).crc = b.crc := by
  simp only [Block.parse]; repeat' split
  all_goals rfl
@[simp] theorem Block.parse_count (b : Block) : (b.parse).count = b.count := by
  simp only [Block.parse]; repeat' split
  all_goals rfl
@[simp] theorem Block.parse_buf (b : Block) : (b.parse).buf = b.buf := by
  simp only [Block.parse]; repeat' split
  all_goals rfl
@[simp] theorem Block.parse_cmdErr (b : Block) : (b.parse).cmdErr = b.cmdErr := by
  simp only [Block.parse]; repeat' split
  all_goals rfl
@[simp] theorem Block.parse_ovf (b : Block) : (b.parse).ovf = b.ovf := by
  simp only [Block.parse]; repeat' split
  all_goals rfl

end Sys2Proof.Machine
end

