-- ==== Sys2Proof/Laws/Crc.lean ====
section
/-! SUPPORT. The recursion of `crcFrom` and the additivity of one round of the CRC (spec/40_crc.md R110,
R111). -/

namespace Sys2Proof.Machine

@[simp] theorem crcFrom_nil (c : Half) : crcFrom c [] = c := rfl

@[simp] theorem crcFrom_cons (c : Half) (a : Byte) (d : List Byte) :
    crcFrom c (a :: d) = crcFrom (crcStep c a) d := rfl

theorem crcFrom_append (c : Half) (d e : List Byte) :
    crcFrom c (d ++ e) = crcFrom (crcFrom c d) e := by
  simp [crcFrom]

/-- One round is additive over XOR: it is a shift and a XOR that bit 15 decides. -/
theorem crcShift_xor (c d : Half) : crcShift (c ^^^ d) = crcShift c ^^^ crcShift d := by
  have hs : (c ^^^ d) <<< 1 = (c <<< 1) ^^^ (d <<< 1) := by
    ext i; simp [BitVec.getElem_shiftLeft]; grind
  unfold crcShift
  rw [hs, BitVec.getLsbD_xor]
  cases c.getLsbD 15 <;> cases d.getLsbD 15 <;> simp
  · ac_rfl
  · ac_rfl
  · generalize c <<< 1 = x
    generalize d <<< 1 = y
    generalize Config.crcPoly = p
    ext i
    simp only [BitVec.getElem_xor]
    cases x[i] <;> cases y[i] <;> cases p[i] <;> rfl

end Sys2Proof.Machine
end

