-- ==== Sys2Proof/Laws/Ops.lean ====
section
/-! SUPPORT. For each shared operation, one lemma that says once everything it can do; and the lemmas that
every operation of the block keeps the invariants I1 to I4 (spec/10_state.md R29). -/

namespace Sys2Proof.Machine

/-! ### The operations with cases -/

/-- R117: a range beyond the valid bytes is rejected, any other is computed from 0xFFFF. -/
theorem Block.crcRange_cases (b : Block) (src : CrcSource) (a len : Byte) :
    (b.sourceLimit src < a.toNat + len.toNat ∧ b.crcRange src a len = { b with cmdErr := true }) ∨
    (a.toNat + len.toNat ≤ b.sourceLimit src ∧
      b.crcRange src a len = { b with crc := crc16 (range (b.source src) a.toNat len.toNat) }) := by
  unfold Block.crcRange
  split
  · exact .inl ⟨by assumption, rfl⟩
  · exact .inr ⟨by omega, rfl⟩

/-- R132: a full buffer drops the byte and sets OVF, any other takes it at index COUNT. -/
theorem Block.bufPush_cases (b : Block) (a : Byte) :
    (∃ h : b.count.toNat < 15,
      b.bufPush a = { b with buf := b.buf.set b.count.toNat a, count := b.count + 1 }) ∨
    (b.count.toNat = 15 ∧ b.bufPush a = { b with ovf := true }) := by
  unfold Block.bufPush
  split
  · exact .inl ⟨by assumption, rfl⟩
  · exact .inr ⟨by have := b.count.isLt; omega, rfl⟩

/-- R133, R199: the four results of PARSE, in the order of its checks. -/
theorem Block.parse_cases (b : Block) :
    (b.count.toNat < 15 ∧ b.parse = { b with pres := .frameTooShort }) ∨
    (b.count.toNat = 15 ∧ b.buf[0] ≠ 0x0A ∧ b.parse = { b with pres := .badStartByte }) ∨
    (b.count.toNat = 15 ∧ b.buf[0] = 0x0A ∧ frameCrc b.buf ≠ receivedCrc b.buf ∧
      b.parse = { b with calcCrc := frameCrc b.buf, recvCrc := receivedCrc b.buf,
                         pres := .checksumMismatch }) ∨
    (b.count.toNat = 15 ∧ b.buf[0] = 0x0A ∧ frameCrc b.buf = receivedCrc b.buf ∧
      b.parse = { b with calcCrc := frameCrc b.buf, recvCrc := receivedCrc b.buf,
                         sample := extractSample b.buf, pres := .ok }) := by
  have hlt := b.count.isLt
  unfold Block.parse
  split
  · exact .inl ⟨by assumption, rfl⟩
  · rename_i hc
    have hc : b.count.toNat = 15 := by simp only [Config.frameLen] at hc; omega
    split
    · exact .inr (.inl ⟨hc, by assumption, rfl⟩)
    · rename_i hs
      have hs : b.buf[0] = 0x0A := by simpa [Config.startByte] using hs
      split
      · exact .inr (.inr (.inl ⟨hc, hs, by assumption, rfl⟩))
      · rename_i he
        exact .inr (.inr (.inr ⟨hc, hs, by simpa using he, rfl⟩))

/-- R161, R88: a write to CMD runs the command its word selects, or sets CMD_ERR. -/
theorem Block.writeCmd_cases (b : Block) (w : Word) :
    (∃ c, decodeCommand w = .ok c ∧ b.writeCmd w = b.runCommand c) ∨
    (∃ e, decodeCommand w = .error e ∧ b.writeCmd w = { b with cmdErr := true }) := by
  unfold Block.writeCmd
  split
  · exact .inl ⟨_, by assumption, rfl⟩
  · exact .inr ⟨_, by assumption, rfl⟩

/-- R161 to R167: a register write is a command, a clearing of flags, a seed of the accumulator, or
nothing. -/
theorem Block.writeRegister_cases (b : Block) (r : Register) (v : Word) :
    (r = .cmd ∧ b.writeRegister r v = b.writeCmd v) ∨
    (r = .status ∧ b.writeRegister r v = b.clearFlags v) ∨
    (r = .crc ∧ b.writeRegister r v = { b with crc := v.setWidth 16 }) ∨
    (r ≠ .cmd ∧ r ≠ .status ∧ r ≠ .crc ∧ b.writeRegister r v = b) := by
  cases r <;> simp [Block.writeRegister]

/-! ### The step -/

/-- Everything a step that answers a next state can have been: a reset event, the execution of the
transaction at the index, or the rejection of an illegal command word. -/
theorem step_cases {s t : State} (h : step s = .next t) :
    s.mark = none ∧
    ((s.resetDue = true ∧ t = s.applyReset) ∨
     (∃ e i, s.nextIs e ∧ decode e = .ok i ∧ exec i s = .next t) ∨
     (∃ e r, s.nextIs e ∧ decode e = .error r ∧ t = s.rejectCommand)) := by
  unfold step at h
  split at h
  · cases h
  · rename_i hm
    refine ⟨hm, ?_⟩
    split at h
    · cases h; exact .inl ⟨by assumption, rfl⟩
    · rename_i hr
      split at h
      · cases h
      · rename_i e he
        have hn : s.nextIs e := ⟨hm, by simpa using hr, he⟩
        split at h
        · exact .inr (.inl ⟨e, _, hn, by assumption, h⟩)
        · cases h; exact .inr (.inr ⟨e, _, hn, by assumption, rfl⟩)

/-- A step on a transaction is its decoding and execution, or its rejection. -/
theorem step_of_nextIs {s : State} {e : Entry} (h : s.nextIs e) :
    step s = match decode e with
      | .ok i => exec i s
      | .error _ => .next s.rejectCommand := by
  obtain ⟨hm, hr, he⟩ := h
  simp only [step, hm, hr, State.fetch, he]
  cases decode e <;> rfl

/-- A transaction placed with `placeEntry` is the next one. -/
theorem State.placeEntry_nextIs (s : State) (e : Entry) : (s.placeEntry e).nextIs e := by
  refine ⟨rfl, ?_, ?_⟩
  · have key : ∀ l : List Nat, (l.dropWhile (fun n => n == s.index)).head? ≠ some s.index := by
      intro l
      induction l with
      | nil => simp
      | cons a l ih =>
        by_cases ha : a = s.index <;> simp [ha, ih]
    simpa [State.resetDue, State.placeEntry] using key s.resets
  · have hlen : (s.program.take s.index ++
        List.replicate (s.index - (s.program.take s.index).length) (Entry.command 0)).length = s.index := by
      rw [List.length_append, List.length_replicate, List.length_take]
      omega
    show (_ ++ e :: _)[s.index]? = some e
    rw [List.getElem?_append_right (by omega), hlen]
    simp

/-! ### The invariants of the block -/

/-- The reset values meet the invariants. -/
theorem Block.reset_inv : Block.reset.Inv where
  countBound := by decide
  restZero := by intro i h _; simp [Block.reset]
  presCode := by decide
  sampleOrigin := by intro h; cases h

/-- PRES is one of the five codes. -/
theorem ParseResult.code_le (p : ParseResult) : p.code.toNat ≤ 4 := by cases p <;> decide

/-- An operation that leaves the buffer, PRES, the sample and the checksums alone keeps the invariants. -/
theorem Block.Inv.of_eq {b c : Block} (hb : b.Inv) (h1 : c.count = b.count) (h2 : c.buf = b.buf)
    (h3 : c.pres = b.pres) (h4 : c.sample = b.sample) (h5 : c.calcCrc = b.calcCrc)
    (h6 : c.recvCrc = b.recvCrc) : c.Inv where
  countBound := by rw [h1]; exact hb.countBound
  restZero := by intro i h hi; simp only [h2]; exact hb.restZero i h (h1 ▸ hi)
  presCode := c.pres.code_le
  sampleOrigin := by
    intro hp
    rw [h4, h5, h6]
    exact hb.sampleOrigin (h3 ▸ hp)

theorem Block.Inv.bufClear {b : Block} (hb : b.Inv) : b.bufClear.Inv where
  countBound := by simp
  restZero := by intro i h _; simp [Block.bufClear]
  presCode := b.bufClear.pres.code_le
  sampleOrigin := fun hp => hb.sampleOrigin hp

theorem Block.Inv.bufPush {b : Block} (hb : b.Inv) (a : Byte) : (b.bufPush a).Inv := by
  rcases b.bufPush_cases a with ⟨h, he⟩ | ⟨_, he⟩
  · rw [he]
    have hc : (b.count + 1).toNat = b.count.toNat + 1 := by
      rw [BitVec.toNat_add]; simp; omega
    exact
      { countBound := by show (b.count + 1).toNat ≤ 15; omega
        restZero := by
          intro i hi hle
          have hle' : b.count.toNat + 1 ≤ i := hc ▸ hle
          show (b.buf.set b.count.toNat a)[i] = 0
          rw [Vector.getElem_set_ne _ _ (by omega)]
          exact hb.restZero i hi (by omega)
        presCode := b.pres.code_le
        sampleOrigin := fun hp => hb.sampleOrigin hp }
  · rw [he]; exact hb.of_eq rfl rfl rfl rfl rfl rfl

theorem Block.Inv.parse {b : Block} (hb : b.Inv) : b.parse.Inv := by
  have rest : ∀ (i : Nat) (h : i < 15), b.parse.count.toNat ≤ i → b.parse.buf[i] = 0x00 := by
    intro i h hi
    simp only [Block.parse_buf]
    exact hb.restZero i h (by simpa using hi)
  refine ⟨by have := b.parse.count.isLt; omega, rest, b.parse.pres.code_le, ?_⟩
  rcases b.parse_cases with ⟨_, he⟩ | ⟨_, _, he⟩ | ⟨_, _, _, he⟩ | ⟨_, hs, hc, he⟩
  · intro hp; rw [he] at hp; cases hp
  · intro hp; rw [he] at hp; cases hp
  · intro hp; rw [he] at hp; cases hp
  · intro _
    rw [he]
    exact ⟨b.buf, ⟨hs, hc⟩, rfl, rfl, hc, rfl⟩

theorem Block.Inv.crcRange {b : Block} (hb : b.Inv) (src : CrcSource) (a len : Byte) :
    (b.crcRange src a len).Inv := by
  rcases b.crcRange_cases src a len with ⟨_, he⟩ | ⟨_, he⟩ <;> rw [he] <;>
    exact hb.of_eq rfl rfl rfl rfl rfl rfl

theorem Block.Inv.runCommand {b : Block} (hb : b.Inv) (c : Command) : (b.runCommand c).Inv := by
  cases c with
  | nop => exact hb
  | crcInit => exact hb.of_eq rfl rfl rfl rfl rfl rfl
  | crcByte a => exact hb.of_eq rfl rfl rfl rfl rfl rfl
  | crcRange src a len => exact hb.crcRange src a len
  | bufClear => exact hb.bufClear
  | bufPush a => exact hb.bufPush a
  | parse => exact hb.parse

theorem Block.Inv.writeRegister {b : Block} (hb : b.Inv) (r : Register) (v : Word) :
    (b.writeRegister r v).Inv := by
  rcases b.writeRegister_cases r v with ⟨_, he⟩ | ⟨_, he⟩ | ⟨_, he⟩ | ⟨_, _, _, he⟩ <;> rw [he]
  · rcases b.writeCmd_cases v with ⟨c, _, he⟩ | ⟨_, _, he⟩ <;> rw [he]
    · exact hb.runCommand c
    · exact hb.of_eq rfl rfl rfl rfl rfl rfl
  · exact hb.of_eq rfl rfl rfl rfl rfl rfl
  · exact hb.of_eq rfl rfl rfl rfl rfl rfl
  · exact hb

end Sys2Proof.Machine
end

