-- ==== Sys2Proof/Laws/PerInstr.lean ====
section
/-! SUPPORT. The family `EncodeMatchesRow`: the encoding of every well-formed instruction has the bits that
its row of spec/opcode_table.json fixes. -/

namespace Sys2Proof.Laws

/-- A row of spec/opcode_table.json: the format, the match and the mask, as the table has them. -/
inductive TableRow where
  | cmd (value mask : Word)
  | bus (value mask : BitVec 10)

/-- The row of an instruction. -/
def tableRow : Instr → TableRow
  | .nop => .cmd 0x00000000 0xFFFFFFFF
  | .crcInit => .cmd 0x00000001 0xFFFFFFFF
  | .crcByte _ => .cmd 0x00000002 0xFFFF00FF
  | .crcRange _ _ _ => .cmd 0x00000003 0xFF0000EF
  | .bufClear => .cmd 0x00000004 0xFFFFFFFF
  | .bufPush _ => .cmd 0x00000005 0xFFFF00FF
  | .parse => .cmd 0x00000006 0xFFFFFFFF
  | .rdCmd => .bus 0x200 0x3FF
  | .rdStatus => .bus 0x204 0x3FF
  | .rdCrc => .bus 0x208 0x3FF
  | .rdCount => .bus 0x20C 0x3FF
  | .rdBuf0 => .bus 0x210 0x3FF
  | .rdBuf1 => .bus 0x214 0x3FF
  | .rdBuf2 => .bus 0x218 0x3FF
  | .rdBuf3 => .bus 0x21C 0x3FF
  | .rdDist => .bus 0x220 0x3FF
  | .rdMag => .bus 0x224 0x3FF
  | .rdAmbient => .bus 0x228 0x3FF
  | .rdPrecision => .bus 0x22C 0x3FF
  | .rdFrameCrc => .bus 0x230 0x3FF
  | .rdRsvd34 => .bus 0x234 0x3FF
  | .rdRsvd38 => .bus 0x238 0x3FF
  | .rdRsvd3C => .bus 0x23C 0x3FF
  | .rdCmdframe0 => .bus 0x240 0x3FF
  | .rdCmdframe1 => .bus 0x244 0x3FF
  | .rdCmdframe2 => .bus 0x248 0x3FF
  | .rdRsvd4C => .bus 0x24C 0x3FF
  | .rdRsvd50 => .bus 0x250 0x3FF
  | .rdRsvd54 => .bus 0x254 0x3FF
  | .rdRsvd58 => .bus 0x258 0x3FF
  | .rdRsvd5C => .bus 0x25C 0x3FF
  | .rdRsvd60 => .bus 0x260 0x3FF
  | .rdRsvd64 => .bus 0x264 0x3FF
  | .rdRsvd68 => .bus 0x268 0x3FF
  | .rdRsvd6C => .bus 0x26C 0x3FF
  | .rdRsvd70 => .bus 0x270 0x3FF
  | .rdRsvd74 => .bus 0x274 0x3FF
  | .rdRsvd78 => .bus 0x278 0x3FF
  | .rdRsvd7C => .bus 0x27C 0x3FF
  | .wrCmd _ => .bus 0x280 0x3FF
  | .wrStatus _ => .bus 0x284 0x3FF
  | .wrCrc _ => .bus 0x288 0x3FF
  | .wrCount _ => .bus 0x28C 0x3FF
  | .wrBuf0 _ => .bus 0x290 0x3FF
  | .wrBuf1 _ => .bus 0x294 0x3FF
  | .wrBuf2 _ => .bus 0x298 0x3FF
  | .wrBuf3 _ => .bus 0x29C 0x3FF
  | .wrDist _ => .bus 0x2A0 0x3FF
  | .wrMag _ => .bus 0x2A4 0x3FF
  | .wrAmbient _ => .bus 0x2A8 0x3FF
  | .wrPrecision _ => .bus 0x2AC 0x3FF
  | .wrFrameCrc _ => .bus 0x2B0 0x3FF
  | .wrRsvd34 _ => .bus 0x2B4 0x3FF
  | .wrRsvd38 _ => .bus 0x2B8 0x3FF
  | .wrRsvd3C _ => .bus 0x2BC 0x3FF
  | .wrCmdframe0 _ => .bus 0x2C0 0x3FF
  | .wrCmdframe1 _ => .bus 0x2C4 0x3FF
  | .wrCmdframe2 _ => .bus 0x2C8 0x3FF
  | .wrRsvd4C _ => .bus 0x2CC 0x3FF
  | .wrRsvd50 _ => .bus 0x2D0 0x3FF
  | .wrRsvd54 _ => .bus 0x2D4 0x3FF
  | .wrRsvd58 _ => .bus 0x2D8 0x3FF
  | .wrRsvd5C _ => .bus 0x2DC 0x3FF
  | .wrRsvd60 _ => .bus 0x2E0 0x3FF
  | .wrRsvd64 _ => .bus 0x2E4 0x3FF
  | .wrRsvd68 _ => .bus 0x2E8 0x3FF
  | .wrRsvd6C _ => .bus 0x2EC 0x3FF
  | .wrRsvd70 _ => .bus 0x2F0 0x3FF
  | .wrRsvd74 _ => .bus 0x2F4 0x3FF
  | .wrRsvd78 _ => .bus 0x2F8 0x3FF
  | .wrRsvd7C _ => .bus 0x2FC 0x3FF
  | .busErr1Byte _ _ => .bus 0x000 0x300
  | .busErr2Byte _ _ => .bus 0x100 0x300
  | .busErr8Byte _ _ => .bus 0x300 0x300
  | .busErrOffLow1 _ _ => .bus 0x201 0x303
  | .busErrOffLow2 _ _ => .bus 0x202 0x303
  | .busErrOffLow3 _ _ => .bus 0x203 0x303

/-- An entry of the row's format that has the bits the row fixes. -/
def TableRow.fits : TableRow → Entry → Prop
  | .cmd value mask, .command w => w &&& mask = value
  | .bus value mask, .bus d _ => d &&& mask = value
  | _, _ => False

/-- The encoding of a well-formed instruction has the bits its row fixes. -/
def EncodeMatchesRow.Statement (i : Instr) : Prop :=
  i.wellFormed = true → (tableRow i).fits (encode i)

/-- A byte operand at bits 15 to 8 leaves the bits of a row outside them. -/
theorem byteWord_fits (op : Word) (a : Byte) (h : op &&& 0xFFFF00FF = op) :
    (op ||| (a.setWidth 32 <<< 8)) &&& 0xFFFF00FF = op := by
  have hz : (a.setWidth 32 <<< 8) &&& (0xFFFF00FF : Word) = 0 := by
    revert a; decide +kernel
  rw [BitVec.and_comm, BitVec.and_or_distrib_left, BitVec.and_comm, h, BitVec.and_comm, hz]
  simp

/-- The operands of CRC_RANGE leave the bits its row fixes. -/
theorem rangeWord_fits (src : CrcSource) (a len : Byte) :
    encodeCommand (.crcRange src a len) &&& 0xFF0000EF = 0x00000003 := by
  have hs : (src.code.setWidth 32 <<< 4) &&& (0xFF0000EF : Word) = 0 := by cases src <;> decide
  have ha : (a.setWidth 32 <<< 8) &&& (0xFF0000EF : Word) = 0 := by revert a; decide +kernel
  have hl : (len.setWidth 32 <<< 16) &&& (0xFF0000EF : Word) = 0 := by revert len; decide +kernel
  simp only [encodeCommand]
  rw [BitVec.and_comm] at hs ha hl ⊢
  rw [BitVec.and_or_distrib_left, BitVec.and_or_distrib_left, BitVec.and_or_distrib_left, hs, ha, hl]
  decide

/-- A descriptor has the size it was built with. -/
theorem descriptor_size (z : AccessSize) (dir : Dir) (off : BitVec 7) :
    descriptor z dir off &&& 0x300 = z.code.setWidth 10 <<< 8 := by
  cases z <;> cases dir <;> revert off <;> decide +kernel

/-- A 4-byte descriptor whose offset has the low bits `k` has the bits of the row BUSERR_OFFLOW`k`. -/
theorem descriptor_low (dir : Dir) (off : BitVec 7) (k : BitVec 2) (h : off.extractLsb' 0 2 = k) :
    descriptor .four dir off &&& 0x303 = 0x200 ||| k.setWidth 10 := by
  subst h; cases dir <;> revert off <;> decide +kernel

theorem EncodeMatchesRow.nop :
    EncodeMatchesRow.Statement (Instr.nop) :=
  fun _ => (by decide : (0x00000000 &&& 0xFFFFFFFF : Word) = 0x00000000)

theorem EncodeMatchesRow.crcInit :
    EncodeMatchesRow.Statement (Instr.crcInit) :=
  fun _ => (by decide : (0x00000001 &&& 0xFFFFFFFF : Word) = 0x00000001)

theorem EncodeMatchesRow.crcByte (a : Byte) :
    EncodeMatchesRow.Statement (.crcByte a) :=
  fun _ => byteWord_fits 0x00000002 a (by decide)

theorem EncodeMatchesRow.crcRange (src : CrcSource) (a len : Byte) :
    EncodeMatchesRow.Statement (.crcRange src a len) :=
  fun _ => rangeWord_fits src a len

theorem EncodeMatchesRow.bufClear :
    EncodeMatchesRow.Statement (Instr.bufClear) :=
  fun _ => (by decide : (0x00000004 &&& 0xFFFFFFFF : Word) = 0x00000004)

theorem EncodeMatchesRow.bufPush (a : Byte) :
    EncodeMatchesRow.Statement (.bufPush a) :=
  fun _ => byteWord_fits 0x00000005 a (by decide)

theorem EncodeMatchesRow.parse :
    EncodeMatchesRow.Statement (Instr.parse) :=
  fun _ => (by decide : (0x00000006 &&& 0xFFFFFFFF : Word) = 0x00000006)

theorem EncodeMatchesRow.rdCmd :
    EncodeMatchesRow.Statement (Instr.rdCmd) :=
  fun _ => (by decide : (0x200 &&& 0x3FF : BitVec 10) = 0x200)

theorem EncodeMatchesRow.rdStatus :
    EncodeMatchesRow.Statement (Instr.rdStatus) :=
  fun _ => (by decide : (0x204 &&& 0x3FF : BitVec 10) = 0x204)

theorem EncodeMatchesRow.rdCrc :
    EncodeMatchesRow.Statement (Instr.rdCrc) :=
  fun _ => (by decide : (0x208 &&& 0x3FF : BitVec 10) = 0x208)

theorem EncodeMatchesRow.rdCount :
    EncodeMatchesRow.Statement (Instr.rdCount) :=
  fun _ => (by decide : (0x20C &&& 0x3FF : BitVec 10) = 0x20C)

theorem EncodeMatchesRow.rdBuf0 :
    EncodeMatchesRow.Statement (Instr.rdBuf0) :=
  fun _ => (by decide : (0x210 &&& 0x3FF : BitVec 10) = 0x210)

theorem EncodeMatchesRow.rdBuf1 :
    EncodeMatchesRow.Statement (Instr.rdBuf1) :=
  fun _ => (by decide : (0x214 &&& 0x3FF : BitVec 10) = 0x214)

theorem EncodeMatchesRow.rdBuf2 :
    EncodeMatchesRow.Statement (Instr.rdBuf2) :=
  fun _ => (by decide : (0x218 &&& 0x3FF : BitVec 10) = 0x218)

theorem EncodeMatchesRow.rdBuf3 :
    EncodeMatchesRow.Statement (Instr.rdBuf3) :=
  fun _ => (by decide : (0x21C &&& 0x3FF : BitVec 10) = 0x21C)

theorem EncodeMatchesRow.rdDist :
    EncodeMatchesRow.Statement (Instr.rdDist) :=
  fun _ => (by decide : (0x220 &&& 0x3FF : BitVec 10) = 0x220)

theorem EncodeMatchesRow.rdMag :
    EncodeMatchesRow.Statement (Instr.rdMag) :=
  fun _ => (by decide : (0x224 &&& 0x3FF : BitVec 10) = 0x224)

theorem EncodeMatchesRow.rdAmbient :
    EncodeMatchesRow.Statement (Instr.rdAmbient) :=
  fun _ => (by decide : (0x228 &&& 0x3FF : BitVec 10) = 0x228)

theorem EncodeMatchesRow.rdPrecision :
    EncodeMatchesRow.Statement (Instr.rdPrecision) :=
  fun _ => (by decide : (0x22C &&& 0x3FF : BitVec 10) = 0x22C)

theorem EncodeMatchesRow.rdFrameCrc :
    EncodeMatchesRow.Statement (Instr.rdFrameCrc) :=
  fun _ => (by decide : (0x230 &&& 0x3FF : BitVec 10) = 0x230)

theorem EncodeMatchesRow.rdRsvd34 :
    EncodeMatchesRow.Statement (Instr.rdRsvd34) :=
  fun _ => (by decide : (0x234 &&& 0x3FF : BitVec 10) = 0x234)

theorem EncodeMatchesRow.rdRsvd38 :
    EncodeMatchesRow.Statement (Instr.rdRsvd38) :=
  fun _ => (by decide : (0x238 &&& 0x3FF : BitVec 10) = 0x238)

theorem EncodeMatchesRow.rdRsvd3C :
    EncodeMatchesRow.Statement (Instr.rdRsvd3C) :=
  fun _ => (by decide : (0x23C &&& 0x3FF : BitVec 10) = 0x23C)

theorem EncodeMatchesRow.rdCmdframe0 :
    EncodeMatchesRow.Statement (Instr.rdCmdframe0) :=
  fun _ => (by decide : (0x240 &&& 0x3FF : BitVec 10) = 0x240)

theorem EncodeMatchesRow.rdCmdframe1 :
    EncodeMatchesRow.Statement (Instr.rdCmdframe1) :=
  fun _ => (by decide : (0x244 &&& 0x3FF : BitVec 10) = 0x244)

theorem EncodeMatchesRow.rdCmdframe2 :
    EncodeMatchesRow.Statement (Instr.rdCmdframe2) :=
  fun _ => (by decide : (0x248 &&& 0x3FF : BitVec 10) = 0x248)

theorem EncodeMatchesRow.rdRsvd4C :
    EncodeMatchesRow.Statement (Instr.rdRsvd4C) :=
  fun _ => (by decide : (0x24C &&& 0x3FF : BitVec 10) = 0x24C)

theorem EncodeMatchesRow.rdRsvd50 :
    EncodeMatchesRow.Statement (Instr.rdRsvd50) :=
  fun _ => (by decide : (0x250 &&& 0x3FF : BitVec 10) = 0x250)

theorem EncodeMatchesRow.rdRsvd54 :
    EncodeMatchesRow.Statement (Instr.rdRsvd54) :=
  fun _ => (by decide : (0x254 &&& 0x3FF : BitVec 10) = 0x254)

theorem EncodeMatchesRow.rdRsvd58 :
    EncodeMatchesRow.Statement (Instr.rdRsvd58) :=
  fun _ => (by decide : (0x258 &&& 0x3FF : BitVec 10) = 0x258)

theorem EncodeMatchesRow.rdRsvd5C :
    EncodeMatchesRow.Statement (Instr.rdRsvd5C) :=
  fun _ => (by decide : (0x25C &&& 0x3FF : BitVec 10) = 0x25C)

theorem EncodeMatchesRow.rdRsvd60 :
    EncodeMatchesRow.Statement (Instr.rdRsvd60) :=
  fun _ => (by decide : (0x260 &&& 0x3FF : BitVec 10) = 0x260)

theorem EncodeMatchesRow.rdRsvd64 :
    EncodeMatchesRow.Statement (Instr.rdRsvd64) :=
  fun _ => (by decide : (0x264 &&& 0x3FF : BitVec 10) = 0x264)

theorem EncodeMatchesRow.rdRsvd68 :
    EncodeMatchesRow.Statement (Instr.rdRsvd68) :=
  fun _ => (by decide : (0x268 &&& 0x3FF : BitVec 10) = 0x268)

theorem EncodeMatchesRow.rdRsvd6C :
    EncodeMatchesRow.Statement (Instr.rdRsvd6C) :=
  fun _ => (by decide : (0x26C &&& 0x3FF : BitVec 10) = 0x26C)

theorem EncodeMatchesRow.rdRsvd70 :
    EncodeMatchesRow.Statement (Instr.rdRsvd70) :=
  fun _ => (by decide : (0x270 &&& 0x3FF : BitVec 10) = 0x270)

theorem EncodeMatchesRow.rdRsvd74 :
    EncodeMatchesRow.Statement (Instr.rdRsvd74) :=
  fun _ => (by decide : (0x274 &&& 0x3FF : BitVec 10) = 0x274)

theorem EncodeMatchesRow.rdRsvd78 :
    EncodeMatchesRow.Statement (Instr.rdRsvd78) :=
  fun _ => (by decide : (0x278 &&& 0x3FF : BitVec 10) = 0x278)

theorem EncodeMatchesRow.rdRsvd7C :
    EncodeMatchesRow.Statement (Instr.rdRsvd7C) :=
  fun _ => (by decide : (0x27C &&& 0x3FF : BitVec 10) = 0x27C)

theorem EncodeMatchesRow.wrCmd (v : Word) :
    EncodeMatchesRow.Statement (.wrCmd v) :=
  fun _ => (by decide : (0x280 &&& 0x3FF : BitVec 10) = 0x280)

theorem EncodeMatchesRow.wrStatus (v : Word) :
    EncodeMatchesRow.Statement (.wrStatus v) :=
  fun _ => (by decide : (0x284 &&& 0x3FF : BitVec 10) = 0x284)

theorem EncodeMatchesRow.wrCrc (v : Word) :
    EncodeMatchesRow.Statement (.wrCrc v) :=
  fun _ => (by decide : (0x288 &&& 0x3FF : BitVec 10) = 0x288)

theorem EncodeMatchesRow.wrCount (v : Word) :
    EncodeMatchesRow.Statement (.wrCount v) :=
  fun _ => (by decide : (0x28C &&& 0x3FF : BitVec 10) = 0x28C)

theorem EncodeMatchesRow.wrBuf0 (v : Word) :
    EncodeMatchesRow.Statement (.wrBuf0 v) :=
  fun _ => (by decide : (0x290 &&& 0x3FF : BitVec 10) = 0x290)

theorem EncodeMatchesRow.wrBuf1 (v : Word) :
    EncodeMatchesRow.Statement (.wrBuf1 v) :=
  fun _ => (by decide : (0x294 &&& 0x3FF : BitVec 10) = 0x294)

theorem EncodeMatchesRow.wrBuf2 (v : Word) :
    EncodeMatchesRow.Statement (.wrBuf2 v) :=
  fun _ => (by decide : (0x298 &&& 0x3FF : BitVec 10) = 0x298)

theorem EncodeMatchesRow.wrBuf3 (v : Word) :
    EncodeMatchesRow.Statement (.wrBuf3 v) :=
  fun _ => (by decide : (0x29C &&& 0x3FF : BitVec 10) = 0x29C)

theorem EncodeMatchesRow.wrDist (v : Word) :
    EncodeMatchesRow.Statement (.wrDist v) :=
  fun _ => (by decide : (0x2A0 &&& 0x3FF : BitVec 10) = 0x2A0)

theorem EncodeMatchesRow.wrMag (v : Word) :
    EncodeMatchesRow.Statement (.wrMag v) :=
  fun _ => (by decide : (0x2A4 &&& 0x3FF : BitVec 10) = 0x2A4)

theorem EncodeMatchesRow.wrAmbient (v : Word) :
    EncodeMatchesRow.Statement (.wrAmbient v) :=
  fun _ => (by decide : (0x2A8 &&& 0x3FF : BitVec 10) = 0x2A8)

theorem EncodeMatchesRow.wrPrecision (v : Word) :
    EncodeMatchesRow.Statement (.wrPrecision v) :=
  fun _ => (by decide : (0x2AC &&& 0x3FF : BitVec 10) = 0x2AC)

theorem EncodeMatchesRow.wrFrameCrc (v : Word) :
    EncodeMatchesRow.Statement (.wrFrameCrc v) :=
  fun _ => (by decide : (0x2B0 &&& 0x3FF : BitVec 10) = 0x2B0)

theorem EncodeMatchesRow.wrRsvd34 (v : Word) :
    EncodeMatchesRow.Statement (.wrRsvd34 v) :=
  fun _ => (by decide : (0x2B4 &&& 0x3FF : BitVec 10) = 0x2B4)

theorem EncodeMatchesRow.wrRsvd38 (v : Word) :
    EncodeMatchesRow.Statement (.wrRsvd38 v) :=
  fun _ => (by decide : (0x2B8 &&& 0x3FF : BitVec 10) = 0x2B8)

theorem EncodeMatchesRow.wrRsvd3C (v : Word) :
    EncodeMatchesRow.Statement (.wrRsvd3C v) :=
  fun _ => (by decide : (0x2BC &&& 0x3FF : BitVec 10) = 0x2BC)

theorem EncodeMatchesRow.wrCmdframe0 (v : Word) :
    EncodeMatchesRow.Statement (.wrCmdframe0 v) :=
  fun _ => (by decide : (0x2C0 &&& 0x3FF : BitVec 10) = 0x2C0)

theorem EncodeMatchesRow.wrCmdframe1 (v : Word) :
    EncodeMatchesRow.Statement (.wrCmdframe1 v) :=
  fun _ => (by decide : (0x2C4 &&& 0x3FF : BitVec 10) = 0x2C4)

theorem EncodeMatchesRow.wrCmdframe2 (v : Word) :
    EncodeMatchesRow.Statement (.wrCmdframe2 v) :=
  fun _ => (by decide : (0x2C8 &&& 0x3FF : BitVec 10) = 0x2C8)

theorem EncodeMatchesRow.wrRsvd4C (v : Word) :
    EncodeMatchesRow.Statement (.wrRsvd4C v) :=
  fun _ => (by decide : (0x2CC &&& 0x3FF : BitVec 10) = 0x2CC)

theorem EncodeMatchesRow.wrRsvd50 (v : Word) :
    EncodeMatchesRow.Statement (.wrRsvd50 v) :=
  fun _ => (by decide : (0x2D0 &&& 0x3FF : BitVec 10) = 0x2D0)

theorem EncodeMatchesRow.wrRsvd54 (v : Word) :
    EncodeMatchesRow.Statement (.wrRsvd54 v) :=
  fun _ => (by decide : (0x2D4 &&& 0x3FF : BitVec 10) = 0x2D4)

theorem EncodeMatchesRow.wrRsvd58 (v : Word) :
    EncodeMatchesRow.Statement (.wrRsvd58 v) :=
  fun _ => (by decide : (0x2D8 &&& 0x3FF : BitVec 10) = 0x2D8)

theorem EncodeMatchesRow.wrRsvd5C (v : Word) :
    EncodeMatchesRow.Statement (.wrRsvd5C v) :=
  fun _ => (by decide : (0x2DC &&& 0x3FF : BitVec 10) = 0x2DC)

theorem EncodeMatchesRow.wrRsvd60 (v : Word) :
    EncodeMatchesRow.Statement (.wrRsvd60 v) :=
  fun _ => (by decide : (0x2E0 &&& 0x3FF : BitVec 10) = 0x2E0)

theorem EncodeMatchesRow.wrRsvd64 (v : Word) :
    EncodeMatchesRow.Statement (.wrRsvd64 v) :=
  fun _ => (by decide : (0x2E4 &&& 0x3FF : BitVec 10) = 0x2E4)

theorem EncodeMatchesRow.wrRsvd68 (v : Word) :
    EncodeMatchesRow.Statement (.wrRsvd68 v) :=
  fun _ => (by decide : (0x2E8 &&& 0x3FF : BitVec 10) = 0x2E8)

theorem EncodeMatchesRow.wrRsvd6C (v : Word) :
    EncodeMatchesRow.Statement (.wrRsvd6C v) :=
  fun _ => (by decide : (0x2EC &&& 0x3FF : BitVec 10) = 0x2EC)

theorem EncodeMatchesRow.wrRsvd70 (v : Word) :
    EncodeMatchesRow.Statement (.wrRsvd70 v) :=
  fun _ => (by decide : (0x2F0 &&& 0x3FF : BitVec 10) = 0x2F0)

theorem EncodeMatchesRow.wrRsvd74 (v : Word) :
    EncodeMatchesRow.Statement (.wrRsvd74 v) :=
  fun _ => (by decide : (0x2F4 &&& 0x3FF : BitVec 10) = 0x2F4)

theorem EncodeMatchesRow.wrRsvd78 (v : Word) :
    EncodeMatchesRow.Statement (.wrRsvd78 v) :=
  fun _ => (by decide : (0x2F8 &&& 0x3FF : BitVec 10) = 0x2F8)

theorem EncodeMatchesRow.wrRsvd7C (v : Word) :
    EncodeMatchesRow.Statement (.wrRsvd7C v) :=
  fun _ => (by decide : (0x2FC &&& 0x3FF : BitVec 10) = 0x2FC)

theorem EncodeMatchesRow.busErr1Byte (dir : Dir) (off : BitVec 7) :
    EncodeMatchesRow.Statement (.busErr1Byte dir off) :=
  fun _ => descriptor_size .one dir off

theorem EncodeMatchesRow.busErr2Byte (dir : Dir) (off : BitVec 7) :
    EncodeMatchesRow.Statement (.busErr2Byte dir off) :=
  fun _ => descriptor_size .two dir off

theorem EncodeMatchesRow.busErr8Byte (dir : Dir) (off : BitVec 7) :
    EncodeMatchesRow.Statement (.busErr8Byte dir off) :=
  fun _ => descriptor_size .eight dir off

theorem EncodeMatchesRow.busErrOffLow1 (dir : Dir) (off : BitVec 7) :
    EncodeMatchesRow.Statement (.busErrOffLow1 dir off) :=
  fun h => descriptor_low dir off 1 (by simpa [Instr.wellFormed] using h)

theorem EncodeMatchesRow.busErrOffLow2 (dir : Dir) (off : BitVec 7) :
    EncodeMatchesRow.Statement (.busErrOffLow2 dir off) :=
  fun h => descriptor_low dir off 2 (by simpa [Instr.wellFormed] using h)

theorem EncodeMatchesRow.busErrOffLow3 (dir : Dir) (off : BitVec 7) :
    EncodeMatchesRow.Statement (.busErrOffLow3 dir off) :=
  fun h => descriptor_low dir off 3 (by simpa [Instr.wellFormed] using h)

end Sys2Proof.Laws
end

