-- ==== Sys2Proof/Tests/Slice0.lean ====
section
/-! SUPPORT. Tests of the model against values the spec gives (spec/95_test_vectors.md, the rules' examples and
tables), the smoke test of `wellFormed`, and for every obligation with hypotheses a witness that meets
them. -/

namespace Sys2Proof.Tests

open Sys2Proof.Machine

/-- Frame P1 of spec/95_test_vectors.md section 5.1. -/
def frameP1 : Vector Byte 15 :=
  #v[0x0A, 0x0D, 0x00, 0x00, 0x00, 0x06, 0xD9, 0x01, 0x2C, 0x03, 0x40, 0x00, 0x64, 0x52, 0x0A]

/-- The reset block with a full buffer. -/
def fullBlock (f : Vector Byte 15) : Block := { Block.reset with buf := f, count := 15 }

/-- The block after P1 was pushed and parsed, with the values of section 5.1. -/
def parsedP1 : Block :=
  { fullBlock frameP1 with
    pres := .ok
    calcCrc := 0x520A
    recvCrc := 0x520A
    sample := { distMm := 0x06D9, magnitude := 0x012C, magExp := 3, ambient := 0x40, precision := 100 } }

/-- The reset block with another accumulator. -/
def withCrc (c : Half) (b : Block) : Block := { b with crc := c }

/-- The machine after reset around a block. -/
def onBlock (b : Block) : State := { State.reset with block := b }

/-- The machine after reset around a block, with a list of transactions. -/
def running (b : Block) (p : List Entry) : State := { onBlock b with program := p }

/-- The next state of an outcome, the given state where there is none. -/
def nextOr (s : State) : Host.Outcome State Fault Refusal → State
  | .next t => t
  | .fault _ => s
  | .refused _ => s

/-- The state after an instruction on a block. -/
def ran (i : Instr) (b : Block) : State := nextOr (onBlock b) (exec i (onBlock b))

/-- The state after a step. -/
def stepped (s : State) : State := nextOr s (step s)

/-- A transaction's state element after an instruction, for a register read. -/
def value (i : Instr) (b : Block) : Option Word := (ran i b).response

/-! ### Well-formedness (R92) -/

theorem test_wellFormed_refuses_low1 :
    (Instr.busErrOffLow1 .read 0x02).wellFormed = false := by decide

theorem test_wellFormed_refuses_low2 :
    (Instr.busErrOffLow2 .write 0x03).wellFormed = false := by decide

theorem test_wellFormed_refuses_low3 :
    (Instr.busErrOffLow3 .read 0x04).wellFormed = false := by decide

theorem test_wellFormed_accepts : (Instr.busErrOffLow1 .read 0x7D).wellFormed = true ∧
    (Instr.busErrOffLow2 .read 0x06).wellFormed = true ∧
    (Instr.busErrOffLow3 .write 0x7F).wellFormed = true := by decide

/-! ### Decoding, from the encodings of R87, R92 and the words of sections 6 and 7 -/

theorem test_decode_nop : (decode (.command 0x00000000)).toOption = some (.nop) := by decide

theorem test_decode_crc_init :
    (decode (.command 0x00000001)).toOption = some (.crcInit) := by decide

theorem test_decode_crc_byte :
    (decode (.command 0x00002402)).toOption = some (.crcByte 0x24) := by decide

theorem test_decode_crc_range_buf :
    (decode (.command 0x00020E03)).toOption = some (.crcRange .buf 14 2) := by decide

theorem test_decode_crc_range_rom :
    (decode (.command 0x00060513)).toOption = some (.crcRange .cmdFrame 5 6) := by decide

theorem test_decode_buf_clear :
    (decode (.command 0x00000004)).toOption = some (.bufClear) := by decide

theorem test_decode_buf_push :
    (decode (.command 0x0000D905)).toOption = some (.bufPush 0xD9) := by decide

theorem test_decode_parse : (decode (.command 0x00000006)).toOption = some (.parse) := by decide

/-- R92: the 32 read descriptors. -/
theorem test_decode_reads : ∀ p ∈ ([
      (0x200, .rdCmd), (0x204, .rdStatus), (0x208, .rdCrc), (0x20C, .rdCount), (0x210, .rdBuf0),
      (0x214, .rdBuf1), (0x218, .rdBuf2), (0x21C, .rdBuf3), (0x220, .rdDist), (0x224, .rdMag),
      (0x228, .rdAmbient), (0x22C, .rdPrecision), (0x230, .rdFrameCrc), (0x234, .rdRsvd34),
      (0x238, .rdRsvd38), (0x23C, .rdRsvd3C), (0x240, .rdCmdframe0), (0x244, .rdCmdframe1),
      (0x248, .rdCmdframe2), (0x24C, .rdRsvd4C), (0x250, .rdRsvd50), (0x254, .rdRsvd54),
      (0x258, .rdRsvd58), (0x25C, .rdRsvd5C), (0x260, .rdRsvd60), (0x264, .rdRsvd64),
      (0x268, .rdRsvd68), (0x26C, .rdRsvd6C), (0x270, .rdRsvd70), (0x274, .rdRsvd74),
      (0x278, .rdRsvd78), (0x27C, .rdRsvd7C)] : List (BitVec 10 × Instr)),
    (decode (.bus p.1 0)).toOption = some p.2 := by decide

/-- R92: the 32 write descriptors. -/
theorem test_decode_writes : ∀ p ∈ ([
      (0x280, .wrCmd 0xABCD1234), (0x284, .wrStatus 0xABCD1234), (0x288, .wrCrc 0xABCD1234),
      (0x28C, .wrCount 0xABCD1234), (0x290, .wrBuf0 0xABCD1234), (0x294, .wrBuf1 0xABCD1234),
      (0x298, .wrBuf2 0xABCD1234), (0x29C, .wrBuf3 0xABCD1234), (0x2A0, .wrDist 0xABCD1234),
      (0x2A4, .wrMag 0xABCD1234), (0x2A8, .wrAmbient 0xABCD1234), (0x2AC, .wrPrecision 0xABCD1234),
      (0x2B0, .wrFrameCrc 0xABCD1234), (0x2B4, .wrRsvd34 0xABCD1234),
      (0x2B8, .wrRsvd38 0xABCD1234), (0x2BC, .wrRsvd3C 0xABCD1234),
      (0x2C0, .wrCmdframe0 0xABCD1234), (0x2C4, .wrCmdframe1 0xABCD1234),
      (0x2C8, .wrCmdframe2 0xABCD1234), (0x2CC, .wrRsvd4C 0xABCD1234),
      (0x2D0, .wrRsvd50 0xABCD1234), (0x2D4, .wrRsvd54 0xABCD1234), (0x2D8, .wrRsvd58 0xABCD1234),
      (0x2DC, .wrRsvd5C 0xABCD1234), (0x2E0, .wrRsvd60 0xABCD1234), (0x2E4, .wrRsvd64 0xABCD1234),
      (0x2E8, .wrRsvd68 0xABCD1234), (0x2EC, .wrRsvd6C 0xABCD1234),
      (0x2F0, .wrRsvd70 0xABCD1234), (0x2F4, .wrRsvd74 0xABCD1234),
      (0x2F8, .wrRsvd78 0xABCD1234), (0x2FC, .wrRsvd7C 0xABCD1234)] : List (BitVec 10 × Instr)),
    (decode (.bus p.1 0xABCD1234)).toOption = some p.2 := by decide

/-- Section 7.3, and one write of 8 bytes. -/
theorem test_decode_bus_errors : ∀ p ∈ ([
      (0x080, .busErr1Byte .write 0x00), (0x050, .busErr1Byte .read 0x50),
      (0x104, .busErr2Byte .read 0x04), (0x300, .busErr8Byte .read 0x00), (0x3FC, .busErr8Byte .write 0x7C),
      (0x281, .busErrOffLow1 .write 0x01), (0x206, .busErrOffLow2 .read 0x06),
      (0x27F, .busErrOffLow3 .read 0x7F)] : List (BitVec 10 × Instr)),
    (decode (.bus p.1 0x06)).toOption = some p.2 := by decide

/-- Section 6.4. -/
theorem test_illegal_words : ([
      0x00000007, 0x00000008, 0x0000000F, 0x00000010, 0x00000020, 0x00000040, 0x00000080,
      0x00000100, 0x00010000, 0x01000000, 0x80000000, 0x00000011, 0x00000012, 0x00010002,
      0x01000002, 0x00000023, 0x00000083, 0x01000003, 0x00000014, 0x00000015, 0x00010005,
      0x00000016, 0x00000106, 0xFFFFFFFF] : List Word).all (fun w =>
    (decode (.command w)).toOption = none ∧
      (ran (.wrCmd w) (withCrc 0x1234 Block.reset)).block =
        { withCrc 0x1234 Block.reset with cmdErr := true }) = true := by decide

/-- R90: the three names. -/
theorem test_illegal_reasons :
    illegalReason 0x00000007 = .reservedOpcode ∧ illegalReason 0x01000002 = .reservedBits ∧
    illegalReason 0x00000106 = .unusedField := by decide

/-! ### The table's own numbering of the words, and the fetch -/

/-- spec/opcode_table.json: the match of every row decodes to the row and is the next step after reset. -/
theorem test_table_words : ∀ p ∈ ([
      (32, 0x00000000, .nop), (32, 0x00000001, .crcInit), (32, 0x00000002, .crcByte 0x00),
      (32, 0x00000003, .crcRange .buf 0 0), (32, 0x00000004, .bufClear),
      (32, 0x00000005, .bufPush 0x00), (32, 0x00000006, .parse), (16, 0x200, .rdCmd),
      (16, 0x204, .rdStatus), (16, 0x208, .rdCrc), (16, 0x20C, .rdCount), (16, 0x210, .rdBuf0),
      (16, 0x214, .rdBuf1), (16, 0x218, .rdBuf2), (16, 0x21C, .rdBuf3), (16, 0x220, .rdDist),
      (16, 0x224, .rdMag), (16, 0x228, .rdAmbient), (16, 0x22C, .rdPrecision),
      (16, 0x230, .rdFrameCrc), (16, 0x234, .rdRsvd34), (16, 0x238, .rdRsvd38),
      (16, 0x23C, .rdRsvd3C), (16, 0x240, .rdCmdframe0), (16, 0x244, .rdCmdframe1),
      (16, 0x248, .rdCmdframe2), (16, 0x24C, .rdRsvd4C), (16, 0x250, .rdRsvd50),
      (16, 0x254, .rdRsvd54), (16, 0x258, .rdRsvd58), (16, 0x25C, .rdRsvd5C),
      (16, 0x260, .rdRsvd60), (16, 0x264, .rdRsvd64),
      (16, 0x268, .rdRsvd68), (16, 0x26C, .rdRsvd6C),
      (16, 0x270, .rdRsvd70), (16, 0x274, .rdRsvd74),
      (16, 0x278, .rdRsvd78), (16, 0x27C, .rdRsvd7C),
      (16, 0x280, .wrCmd 0), (16, 0x284, .wrStatus 0),
      (16, 0x288, .wrCrc 0), (16, 0x28C, .wrCount 0),
      (16, 0x290, .wrBuf0 0), (16, 0x294, .wrBuf1 0),
      (16, 0x298, .wrBuf2 0), (16, 0x29C, .wrBuf3 0),
      (16, 0x2A0, .wrDist 0), (16, 0x2A4, .wrMag 0),
      (16, 0x2A8, .wrAmbient 0), (16, 0x2AC, .wrPrecision 0),
      (16, 0x2B0, .wrFrameCrc 0), (16, 0x2B4, .wrRsvd34 0),
      (16, 0x2B8, .wrRsvd38 0), (16, 0x2BC, .wrRsvd3C 0),
      (16, 0x2C0, .wrCmdframe0 0), (16, 0x2C4, .wrCmdframe1 0),
      (16, 0x2C8, .wrCmdframe2 0), (16, 0x2CC, .wrRsvd4C 0),
      (16, 0x2D0, .wrRsvd50 0), (16, 0x2D4, .wrRsvd54 0),
      (16, 0x2D8, .wrRsvd58 0), (16, 0x2DC, .wrRsvd5C 0),
      (16, 0x2E0, .wrRsvd60 0), (16, 0x2E4, .wrRsvd64 0),
      (16, 0x2E8, .wrRsvd68 0), (16, 0x2EC, .wrRsvd6C 0),
      (16, 0x2F0, .wrRsvd70 0), (16, 0x2F4, .wrRsvd74 0),
      (16, 0x2F8, .wrRsvd78 0), (16, 0x2FC, .wrRsvd7C 0),
      (16, 0x000, .busErr1Byte .read 0x00),
      (16, 0x100, .busErr2Byte .read 0x00),
      (16, 0x300, .busErr8Byte .read 0x00),
      (16, 0x201, .busErrOffLow1 .read 0x01),
      (16, 0x202, .busErrOffLow2 .read 0x02),
      (16, 0x203, .busErrOffLow3 .read 0x03)] :
      List (Nat × Nat × Instr)),
    decodeTableWord p.1 p.2.1 = some p.2.2 ∧
      step (State.reset.withFetchWord p.1 p.2.1) =
        exec p.2.2 (State.reset.withFetchWord p.1 p.2.1) := by
  simp only [List.forall_mem_cons, List.not_mem_nil, false_implies, implies_true, and_true]
  repeat' constructor

theorem test_table_word_with_value :
    decodeTableWord 48 (0x30 * 2 ^ 16 + 0x284) = some (.wrStatus 0x30) ∧
    decodeTableWord 16 0x400 = none ∧ decodeTableWord 32 0x00000007 = none := by decide

/-! ### The CRC function (sections 2.2 and 2.3) -/

theorem test_crc_step : ([
      (0xFFFF, 0x00, 0xE1F0), (0xFFFF, 0x01, 0xF1D1), (0xFFFF, 0x0A, 0x40BA), (0xFFFF, 0x80, 0x7078),
      (0xFFFF, 0xFF, 0xFF00), (0x0000, 0x0A, 0xA14A), (0x1234, 0x00, 0x0673), (0x1234, 0xFF, 0x1883),
      (0xEDCB, 0x8A, 0xD741)] : List (Half × Byte × Half)).all (fun p =>
    crcStep p.1 p.2.1 = p.2.2) = true := by decide +kernel

theorem test_crc16 : ∀ p ∈ ([
      ([], 0xFFFF), ([0x00], 0xE1F0), ([0x24], 0x8516), ([0xFF, 0xFF], 0x0000), ([0x0A, 0x0D], 0x2369),
      ([0x01, 0x02, 0x03, 0x04], 0x89C3), (List.replicate 11 0x00, 0xD40F),
      (List.replicate 15 0x00, 0x4EC3),
      ([0x31, 0x32, 0x33, 0x34, 0x35, 0x36, 0x37, 0x38, 0x39], 0x29B1),
      ([0x0A, 0x22, 0x00, 0x00, 0x00, 0x00, 0x00, 0x00], 0xAE57)] : List (List Byte × Half)),
    crc16 p.1 = p.2 := by decide +kernel

/-! ### The commands (sections 5 and 6) -/

theorem test_nop : (ran .nop parsedP1).block = parsedP1 ∧ (ran .nop parsedP1).index = 1 := by decide

theorem test_crc_init : (ran .crcInit (withCrc 0x1234 Block.reset)).block.crc = 0xFFFF := by decide

theorem test_crc_byte : (ran (.crcByte 0x24) (withCrc 0x40BA Block.reset)).block.crc = 0x9622 ∧
    (ran (.crcByte 0x80) (withCrc 0x1234 Block.reset)).block.crc = 0x97FB := by decide +kernel

/-- V6.2-1 to V6.2-8 and V6.2-12. -/
theorem test_crc_range_buf : ([
      (2, 11, 0x520A, 0x00), (2, 13, 0x0000, 0x00), (0, 15, 0x61FC, 0x00), (15, 0, 0xFFFF, 0x00),
      (16, 0, 0x1234, 0x10), (15, 1, 0x1234, 0x10), (14, 2, 0x1234, 0x10), (255, 255, 0x1234, 0x10)] : List (Byte × Byte × Half × Word)).all (fun p =>
    (ran (.crcRange .buf p.1 p.2.1) (withCrc 0x1234 (fullBlock frameP1))).block.crc = p.2.2.1 ∧
      (ran (.crcRange .buf p.1 p.2.1) (withCrc 0x1234 (fullBlock frameP1))).block.status = p.2.2.2) = true :=
  by decide +kernel

/-- V6.2-13 to V6.2-22. -/
theorem test_crc_range_rom : ([
      (0, 8, 0x0F72, 0x00), (0, 10, 0x0000, 0x00), (2, 7, 0x0021, 0x00), (8, 2, 0x53E4, 0x00),
      (9, 1, 0xBF25, 0x00), (10, 0, 0xFFFF, 0x00), (0, 11, 0x1234, 0x10), (11, 0, 0x1234, 0x10),
      (5, 6, 0x1234, 0x10), (255, 255, 0x1234, 0x10)] : List (Byte × Byte × Half × Word)).all (fun p =>
    (ran (.crcRange .cmdFrame p.1 p.2.1) (withCrc 0x1234 Block.reset)).block.crc = p.2.2.1 ∧
      (ran (.crcRange .cmdFrame p.1 p.2.1) (withCrc 0x1234 Block.reset)).block.status = p.2.2.2) = true :=
  by decide +kernel

/-- V6.3-7. -/
theorem test_buf_clear :
    (ran .bufClear parsedP1).block.count = 0 ∧ (ran .bufClear parsedP1).block.buf[14] = 0x00 ∧
    (ran .bufClear parsedP1).block.status = 0x00000001 := by decide

/-- V6.3-5. -/
theorem test_buf_push : (ran (.bufPush 0xFF) Block.reset).block.buf[0] = 0xFF ∧
    (ran (.bufPush 0xFF) Block.reset).block.count = 1 := by decide

/-- V6.3-2. -/
theorem test_buf_push_full :
    (ran (.bufPush 0xAA) (fullBlock frameP1)).block = { fullBlock frameP1 with ovf := true } ∧
    (ran (.bufPush 0xAA) (fullBlock frameP1)).block.status = 0x00000020 := by decide

/-- Section 5.1: P1, B, E and L. -/
theorem test_parse_accepts : (ran .parse (fullBlock frameP1)).block = parsedP1 ∧
    ∀ p ∈ ([
      (#v[0x0A, 0x0D, 0, 0, 0, 0xFF, 0xFA, 0, 0, 0, 0, 0, 0, 0x9C, 0x96], 0xFFFA),
      (#v[0x0A, 0x0D, 0x12, 0x34, 0x56, 0, 0, 0xAB, 0xCD, 0xEF, 0x99, 0x07, 0xD0, 0xA3, 0x8E], 0x0000),
      (#v[0x0A, 0x0F, 0, 0, 0, 0x06, 0xD9, 0x01, 0x2C, 0x03, 0x40, 0, 0x64, 0x52, 0x0A], 0x06D9)] :
      List (Vector Byte 15 × Half)),
      (ran .parse (fullBlock p.1)).block.pres = .ok ∧
        (ran .parse (fullBlock p.1)).block.sample.distMm = p.2 := by decide +kernel

/-- Section 5.2: V5.2-4, -6, -12 and -11. -/
theorem test_parse_rejects :
    (ran .parse { parsedP1 with count := 14 }).block = { parsedP1 with count := 14, pres := .frameTooShort } ∧
    (ran .parse (fullBlock (frameP1.set 0 0x0B))).block.status = 0x00000003 ∧
    (ran .parse { parsedP1 with buf := frameP1.set 14 0x0B }).block.status = 0x00000004 ∧
    (ran .parse { parsedP1 with buf := frameP1.set 14 0x0B }).block.sample = parsedP1.sample ∧
    (ran .parse { parsedP1 with buf := frameP1.set 14 0x0B }).block.readRegister .frameCrc = 0x520B520A ∧
    (ran .parse (fullBlock (Vector.replicate 15 0x0A))).block.readRegister .frameCrc = 0x0A0AEE1E :=
  by decide +kernel

/-! ### Register reads (sections 5.1 and 7.1) and writes (section 7.2) -/

theorem test_reads_after_P1 : ∀ p ∈ ([
      (.rdCmd, 0), (.rdStatus, 0x00000001), (.rdCrc, 0x0000FFFF), (.rdCount, 0x0000000F),
      (.rdBuf0, 0x00000D0A), (.rdBuf1, 0x01D90600), (.rdBuf2, 0x0040032C), (.rdBuf3, 0x000A5264),
      (.rdDist, 0x000006D9), (.rdMag, 0x0003012C), (.rdAmbient, 0x00000040),
      (.rdPrecision, 0x00000064), (.rdFrameCrc, 0x520A520A), (.rdRsvd34, 0), (.rdRsvd38, 0),
      (.rdRsvd3C, 0), (.rdCmdframe0, 0x0000240A), (.rdCmdframe1, 0), (.rdCmdframe2, 0x0000720F),
      (.rdRsvd4C, 0), (.rdRsvd50, 0), (.rdRsvd54, 0), (.rdRsvd58, 0), (.rdRsvd5C, 0),
      (.rdRsvd60, 0), (.rdRsvd64, 0), (.rdRsvd68, 0), (.rdRsvd6C, 0), (.rdRsvd70, 0),
      (.rdRsvd74, 0), (.rdRsvd78, 0), (.rdRsvd7C, 0)] : List (Instr × Word)),
    value p.1 parsedP1 = some p.2 ∧ (ran p.1 parsedP1).block = parsedP1 := by decide +kernel

theorem test_reads_after_reset : ∀ p ∈ ([
      (.rdCmd, 0), (.rdStatus, 0), (.rdCrc, 0x0000FFFF), (.rdCount, 0), (.rdBuf0, 0), (.rdBuf1, 0),
      (.rdBuf2, 0), (.rdBuf3, 0), (.rdDist, 0), (.rdMag, 0), (.rdAmbient, 0), (.rdPrecision, 0),
      (.rdFrameCrc, 0), (.rdRsvd34, 0), (.rdRsvd38, 0), (.rdRsvd3C, 0), (.rdCmdframe0, 0x0000240A),
      (.rdCmdframe1, 0), (.rdCmdframe2, 0x0000720F), (.rdRsvd4C, 0), (.rdRsvd50, 0),
      (.rdRsvd54, 0), (.rdRsvd58, 0), (.rdRsvd5C, 0), (.rdRsvd60, 0), (.rdRsvd64, 0),
      (.rdRsvd68, 0), (.rdRsvd6C, 0), (.rdRsvd70, 0), (.rdRsvd74, 0), (.rdRsvd78, 0),
      (.rdRsvd7C, 0)] : List (Instr × Word)),
    value p.1 Block.reset = some p.2 := by decide +kernel

/-- V7.2-1 to V7.2-5. -/
theorem test_write_status : ([
      (0x00000010, 0x00000021), (0x00000020, 0x00000011), (0x00000030, 0x00000001),
      (0x00000000, 0x00000031), (0xFFFFFFCF, 0x00000031)] : List (Word × Word)).all (fun p =>
    (ran (.wrStatus p.1) { parsedP1 with cmdErr := true, ovf := true }).block.status = p.2) = true :=
  by decide

/-- V7.2-6. -/
theorem test_write_crc :
    (ran (.wrCrc 0xABCD1234) Block.reset).block.readRegister .crc = 0x00001234 := by decide

theorem test_write_cmd :
    (ran (.wrCmd 0x0000FF05) Block.reset).block = (ran (.bufPush 0xFF) Block.reset).block :=
  by decide

/-- V7.2-8 to V7.2-11. -/
theorem test_writes_ignored : ∀ i ∈ ([
      .wrCount 0xFFFFFFFF, .wrBuf0 0xFFFFFFFF, .wrBuf1 0xFFFFFFFF, .wrBuf2 0xFFFFFFFF,
      .wrBuf3 0xFFFFFFFF, .wrDist 0xFFFFFFFF, .wrMag 0xFFFFFFFF, .wrAmbient 0xFFFFFFFF,
      .wrPrecision 0xFFFFFFFF, .wrFrameCrc 0xFFFFFFFF, .wrRsvd34 0xFFFFFFFF, .wrRsvd38 0xFFFFFFFF,
      .wrRsvd3C 0xFFFFFFFF, .wrCmdframe0 0xFFFFFFFF, .wrCmdframe1 0xFFFFFFFF,
      .wrCmdframe2 0xFFFFFFFF, .wrRsvd4C 0xFFFFFFFF, .wrRsvd50 0xFFFFFFFF, .wrRsvd54 0xFFFFFFFF,
      .wrRsvd58 0xFFFFFFFF, .wrRsvd5C 0xFFFFFFFF, .wrRsvd60 0xFFFFFFFF, .wrRsvd64 0xFFFFFFFF,
      .wrRsvd68 0xFFFFFFFF, .wrRsvd6C 0xFFFFFFFF, .wrRsvd70 0xFFFFFFFF, .wrRsvd74 0xFFFFFFFF,
      .wrRsvd78 0xFFFFFFFF, .wrRsvd7C 0xFFFFFFFF] : List Instr),
    (ran i parsedP1).block = parsedP1 ∧ (ran i parsedP1).response = none := by decide

/-! ### BusError, reset and the end of a run (section 7.3, R21, R196, R220) -/

/-- V7.3-1: not a PARSE, and nothing runs after it. -/
theorem test_bus_error : let s := running parsedP1 [.bus 0x080 0x06, .bus 0x204 0]
    (stepped s).block = parsedP1 ∧ (stepped s).mark = some { off := 0x00, size := .one, dir := .write } ∧
      (stepped s).index = 1 ∧ stepped (stepped s) = stepped s := by decide +kernel

theorem test_bus_error_fault :
    step { State.reset with mark := some { off := 0x06, size := .four, dir := .read } } =
    .fault (.busError 0x06 .four .read) := rfl

theorem test_reset_event : let s := { running parsedP1 [.bus 0x208 0] with resets := [0] }
    (stepped s).block = Block.reset ∧ (stepped s).index = 0 ∧ (stepped (stepped s)).response = some 0x0000FFFF :=
  by decide +kernel

theorem test_run_end : step State.reset = .refused .runEnded := rfl

/-! ### The assembler and the host's side (R93, R94, R143, R212, R213) -/

theorem test_assemble_text :
    assembleText "; a comment\n rd CMDFRAME2\ncrc.range.rom 5, 6 ; bad\nwr STATUS, 0x30\nbuf.load 0x0A, 13\n".toList =
      some [.bus 0x248 0, .command 0x00060513, .bus 0x284 0x30, .command 0x00000004, .command 0x00000A05,
        .command 0x00000D05] ∧
    assembleText "buf.push 256".toList = none ∧ assembleText "rd 0x82".toList = none ∧
    assembleText "buf.load 1,2,3,4,5,6,7,8,9,10,11,12,13,14,15,16".toList = none ∧
    assembleText "rd 6".toList = none ∧ assembleText "rd 0x34".toList = some [.bus 0x234 0] :=
  by decide +kernel

/-- Section 4. -/
theorem test_metres : ([
      (0, 0x00000000), (1, 0x3A83126F), (500, 0x3F000000), (1000, 0x3F800000), (1753, 0x3FE0624E),
      (3000, 0x40400000), (65530, 0x42830F5C), (65535, 0x428311EC)] : List (Half × Word)).all (fun p =>
    metresBinary32 p.1 = p.2) = true := by decide +kernel

theorem test_metres_exact : metres 1753 = 1753 / 1000 := rfl

theorem test_host_tick : (hostTick [0x0A]).map Entry.transaction =
      [⟨.write, 0x00, .four, 0x00000004⟩, ⟨.write, 0x00, .four, 0x00000A05⟩,
       ⟨.write, 0x00, .four, 0x00000006⟩, ⟨.read, 0x04, .four, 0⟩] ∧
    (hostTick (List.replicate 20 0x00)).length = 18 ∧ hostStart = [.bus 0x240 0, .bus 0x244 0, .bus 0x248 0] :=
  by decide

theorem test_host_counters :
    (HostCounters.count ⟨2, 3⟩ .ok) = ⟨3, 3⟩ ∧ (HostCounters.count ⟨2, 3⟩ .checksumMismatch) = ⟨2, 4⟩ :=
  by decide

/-! ### Witnesses: the hypotheses of the obligations can be met, clause by clause -/

/-- P1 is a frame that PARSE accepts. -/
theorem p1_accepted : acceptedFrame frameP1 := by
  refine ⟨rfl, ?_⟩
  decide +kernel

/-- The block after P1 meets I1 to I4. -/
theorem parsedP1_inv : parsedP1.Inv where
  countBound := by decide
  restZero := by
    intro i h hi
    have : parsedP1.count.toNat = 15 := rfl
    omega
  presCode := by decide
  sampleOrigin := fun _ => ⟨frameP1, p1_accepted, by decide +kernel, by decide +kernel, rfl, by decide +kernel⟩

theorem witness_ResetEventComesBetweenTransactions :
    let s := { running parsedP1 [] with resets := [0, 3] }
    s.mark = none ∧ s.resets = s.index :: [3] := by decide +kernel

theorem witness_EveryStepKeepsTheInvariant : (running parsedP1 [.command 0x00000006]).Inv ∧
    ∃ t, step (running parsedP1 [.command 0x00000006]) = .next t :=
  ⟨⟨parsedP1_inv, by decide⟩, ⟨_, rfl⟩⟩

theorem witness_StepRunsTheDecodedTransaction :
    ((running parsedP1 [.bus 0x27C 0]).nextIs (.bus 0x27C 0) ∧ decode (.bus 0x27C 0) = .ok .rdRsvd7C) ∧
    (running parsedP1 [.command 0x00000007]).nextIs (.command 0x00000007) ∧
      decode (.command 0x00000007) = .error .reservedOpcode :=
  ⟨⟨⟨rfl, rfl, rfl⟩, rfl⟩, ⟨rfl, rfl, rfl⟩, rfl⟩

theorem witness_DecodeOfEncodeIsTheInstruction :
    (Instr.busErrOffLow3 .write 0x7F).wellFormed = true ∧
    (Instr.crcRange .cmdFrame 0xFF 0xFF).wellFormed = true := by decide +kernel

theorem witness_EachEncodingHasOneMeaning :
    decode (.command 0xFFFF13) = .ok (.crcRange .cmdFrame 0xFF 0xFF) ∧
    isPerformed (descSize 0x2FC) (descOff 0x2FC) = true ∧ descDir 0x2FC = .write := ⟨rfl, rfl, rfl⟩

/-- A word of every row, and the word 0x00000007 that no row matches. -/
theorem witness_CommandRowsSelectAtMostOneCommand :
    ([(0x00000000, 0xFFFFFFFF, 0x00000000), (0x00000001, 0xFFFFFFFF, 0x00000001),
        (0x0000FF02, 0xFFFF00FF, 0x00000002), (0x00FFFF13, 0xFF0000EF, 0x00000003),
        (0x00000004, 0xFFFFFFFF, 0x00000004), (0x0000FF05, 0xFFFF00FF, 0x00000005),
        (0x00000006, 0xFFFFFFFF, 0x00000006)] : List (Word × Word × Word)).all (fun p =>
      p.1 &&& p.2.1 = p.2.2 ∧ (0x00000007 : Word) &&& p.2.1 ≠ p.2.2) = true := by decide +kernel

theorem witness_IllegalWordsAreRejectedAndOnlyThose :
    decodeCommand 0x00000007 = .error .reservedOpcode ∧
    ∀ s t : State, exec (.wrCmd 0x00000000) s = .next t → t.block = s.block :=
  ⟨rfl, fun _ _ h => by cases h; rfl⟩

theorem witness_NopChangesNoState :
    (0x80000000 : Word).extractLsb' 0 4 = 0 ∧ (0x80000000 : Word) ≠ 0x00000000 := by decide +kernel

theorem witness_CrcInitPutsFFFFIntoTheAccumulator :
    (0x00000011 : Word).extractLsb' 0 4 = 1 ∧ (0x00000011 : Word) ≠ 0x00000001 := by decide +kernel

theorem witness_CrcByteFeedsBytesIncrementally :
    ([0x00000012, 0x00000082, 0x00010002, 0x01000002] : List Word).all (fun w => w.extractLsb' 0 4 = 2 ∧
    (w.getLsbD 4 = true ∨ w.extractLsb' 5 3 ≠ 0 ∨ w.extractLsb' 16 8 ≠ 0 ∨ w.extractLsb' 24 8 ≠ 0)) = true :=
  by decide +kernel

theorem witness_CrcRangeChecksThenComputes :
    (fullBlock frameP1).count = 15 ∧ acceptedFrame (fullBlock frameP1).buf ∧
    (∃ t, exec (.crcRange .buf 2 11) (onBlock (fullBlock frameP1)) = .next t) ∧
    (∃ t, exec (.crcRange .cmdFrame 0 8) State.reset = .next t) :=
  ⟨rfl, p1_accepted, ⟨_, rfl⟩, ⟨_, rfl⟩⟩

/-- Both clauses, at the bound: the range 1, 2 ends at COUNT = 3 and the range 1, 3 ends one beyond. -/
theorem witness_CrcRangeReadsNoByteBeyondCount : let b := { parsedP1 with count := 3 }
    let c := { b with buf := frameP1.set 3 0xFF, crc := 0x1234 }
    b.count = c.count ∧ b.cmdErr = c.cmdErr ∧ (∀ i : Fin 15, i.val < b.count.toNat → b.buf[i] = c.buf[i]) ∧
      b.buf ≠ c.buf ∧ (1 : Byte).toNat + (2 : Byte).toNat ≤ b.count.toNat ∧
      b.count.toNat < (1 : Byte).toNat + (3 : Byte).toNat := by decide +kernel

theorem witness_BufPushAppendsOrDrops :
    Block.reset.count.toNat < 15 ∧ ({ parsedP1 with count := 14 } : Block).count.toNat < 15 ∧
    parsedP1.count.toNat = 15 ∧ (0x00010005 : Word).extractLsb' 0 4 = 5 ∧
    (0x00010005 : Word).extractLsb' 16 8 ≠ 0 := by decide +kernel

theorem witness_ParseValidatesAndLatches :
    (0x00000106 : Word).extractLsb' 0 4 = 6 ∧ (0x00000106 : Word) ≠ 0x00000006 ∧
    (fullBlock frameP1).count = 15 ∧ (fullBlock frameP1).buf = frameP1 ∧
    ∃ t, exec .parse (onBlock (fullBlock frameP1)) = .next t :=
  ⟨by decide, by decide, rfl, rfl, ⟨_, rfl⟩⟩

theorem witness_ParseDependsOnTheBufferAlone : let b := parsedP1
    let c := { fullBlock frameP1 with crc := 0x1234, pres := .badStartByte, cmdErr := true }
    b.count = c.count ∧ b.buf = c.buf ∧ b ≠ c ∧ (ran .parse b).block.pres = .ok := by decide +kernel

theorem witness_ParseDoesNotCheckTheLengthByte :
    ∃ t, exec .parse (onBlock (fullBlock frameP1)) = .next t := ⟨_, rfl⟩

theorem witness_EveryDistanceIsAccepted :
    frameP1[0] = 0x0A ∧ frameP1[5] = (0x06D9 : Half).extractLsb' 8 8 ∧
    frameP1[6] = (0x06D9 : Half).extractLsb' 0 8 ∧
    frameP1 = (frameP1.set 13 ((crc16 ((frameP1.toList.drop 2).take 11)).extractLsb' 8 8)).set 14
      ((crc16 ((frameP1.toList.drop 2).take 11)).extractLsb' 0 8) ∧
    (fullBlock frameP1).count = 15 ∧ (fullBlock frameP1).buf = frameP1 := by decide +kernel

theorem witness_SingleBitFlipsOfAnAcceptedFrame :
    ∃ t, exec .parse (onBlock (fullBlock frameP1)) = .next t ∧ t.block.pres = .ok :=
  ⟨ran .parse (fullBlock frameP1), rfl, by decide +kernel⟩

/-- Section 5.3, the first and last bytes of each clause. -/
theorem witness_SingleBitFlips_all_bytes :
    ∀ p ∈ ([(0, 0, .badStartByte), (0, 7, .badStartByte), (1, 0, .ok), (1, 7, .ok), (2, 0, .checksumMismatch),
        (12, 7, .checksumMismatch), (14, 7, .checksumMismatch)] : List (Fin 15 × Fin 8 × ParseResult)),
    (ran .parse (fullBlock (frameP1.set p.1 (frameP1[p.1] ^^^ (1#8 <<< p.2.1.val))))).block.pres = p.2.2 :=
  by decide +kernel

theorem witness_CrcOfDataAndItsCrcIsZero :
    u16 0x40 0xBA = crc16 [0x0A] ∧ acceptedFrame frameP1 := ⟨by decide +kernel, p1_accepted⟩

theorem witness_CrcDetectsEverySingleBitError : (0 : Nat) < 8 ∧ (7 : Nat) < 8 := by decide +kernel

theorem witness_BufWordsPackFourBytesEach :
    (∃ y : Nat → Byte, (∀ (i : Nat) (h : i < 15), y i = Block.reset.buf[i]) ∧ y 15 = 0x00) ∧
    (onBlock Block.reset).block = State.reset.block ∧ parsedP1.Inv ∧
    parsedP1.count.toNat ≤ 4 * 3 + 3 :=
  ⟨⟨fun _ => 0, fun i h => by simp [Block.reset], rfl⟩, rfl, parsedP1_inv, by decide⟩

theorem witness_WriteCmdRunsTheDecodedCommand :
    decodeCommand 0x00FFFF13 = .ok (.crcRange .cmdFrame 0xFF 0xFF) ∧
    decodeCommand 0xFFFFFFFF = .error .reservedOpcode := ⟨rfl, rfl⟩

theorem witness_CommandWordAndBusWriteAgree : let s := running parsedP1 [.command 0x00000004]
    let t := running parsedP1 [.bus 0x280 0x00000004]
    s.nextIs (.command 0x00000004) ∧ t.nextIs (.bus 0x280 0x00000004) ∧ s.block = t.block ∧ s.index = t.index :=
  ⟨⟨rfl, rfl, rfl⟩, ⟨rfl, rfl, rfl⟩, rfl, rfl⟩

theorem witness_WriteCrcSeedsTheAccumulator :
    (15 : Byte).toNat + (0 : Byte).toNat ≤ parsedP1.sourceLimit .buf ∧
    (0 : Byte).toNat + (10 : Byte).toNat ≤ Block.reset.sourceLimit .cmdFrame := by decide +kernel

theorem witness_NonPerformedTransactionsAreBusErrors :
    ∀ p ∈ ([(0x080, false), (0x104, false), (0x300, false), (0x281, false), (0x27F, false), (0x200, true),
        (0x2FC, true)] : List (BitVec 10 × Bool)),
    ((running parsedP1 [.bus p.1 0]).mark = none ∧ (running parsedP1 [.bus p.1 0]).resetDue = false ∧
      (running parsedP1 [.bus p.1 0]).program[0]? = some (.bus p.1 0)) ∧
    (p.2 = false → p.1.extractLsb' 8 2 ≠ 2 ∨ (p.1.extractLsb' 0 7).toNat % 4 ≠ 0) ∧
    (p.2 = true → p.1.extractLsb' 8 2 = 2 ∧ (p.1.extractLsb' 0 7).toNat % 4 = 0) :=
  by decide +kernel

theorem witness_BusErrorIsFinal : let f : BusFault := { off := 0x06, size := .four, dir := .read }
    let s := { State.reset with mark := some f }
    s.mark = some f ∧ (∃ t, exec .nop s = .next t ∧ s.mark ≠ none) ∧
      ∃ t, Sys2Proof.core.run (0 + 1) (running parsedP1 [.bus 0x204 0]) = .next t :=
  ⟨rfl, ⟨_, rfl, by decide⟩, ⟨_, rfl⟩⟩

theorem witness_OnlyTransactionsMoveTheIndex :
    (∃ t, step (running parsedP1 [.bus 0x204 0]) = .next t) ∧
    (running parsedP1 [.bus 0x204 0]).resetDue = false ∧
    (∃ t, step { running parsedP1 [] with resets := [0] } = .next t) ∧
    { running parsedP1 [] with resets := [0] }.resetDue = true ∧ ∃ t, exec .nop State.reset = .next t :=
  ⟨⟨_, rfl⟩, rfl, ⟨_, rfl⟩, rfl, ⟨_, rfl⟩⟩

theorem witness_RunIsTheFoldOfItsTransactions :
    let s := running parsedP1 [.command 0x00000004, .bus 0x204 0]
    s.mark = none ∧ s.resets = [] ∧ s.index + 2 ≤ s.program.length ∧
      ∀ e ∈ (s.program.drop s.index).take 2, isPerformed e.transaction.size e.transaction.off = true :=
  by decide +kernel

/-- The last clause with two reads of other registers in between. -/
theorem witness_ReadsHaveNoSideEffects :
    let s := running parsedP1 [.bus 0x220 0, .bus 0x204 0, .bus 0x27C 0, .bus 0x220 0]
    let s' := { running parsedP1 [.bus 0x220 1] with response := some 0 }
    s.nextIs (.bus 0x220 0) ∧ s'.nextIs (.bus 0x220 1) ∧ s.block = s'.block ∧ descDir 0x220 = .read ∧
      isPerformed (descSize 0x220) (descOff 0x220) = true ∧ s.mark = none ∧ s.resets = [] ∧
      s.program[s.index]? = some (.bus 0x220 0) ∧ s.program[s.index + 1 + 2]? = some (.bus 0x220 0) ∧
      ∀ e ∈ (s.program.drop (s.index + 1)).take 2,
        e.transaction.dir = .read ∧ isPerformed e.transaction.size e.transaction.off = true :=
  ⟨⟨rfl, rfl, rfl⟩, ⟨rfl, rfl, rfl⟩, rfl, rfl, rfl, rfl, rfl, rfl, rfl, by decide +kernel⟩

/-- The last clause with nothing in between, at the lowest offset. -/
theorem witness_ReadsHaveNoSideEffects_at_once :
    let s := running parsedP1 [.bus 0x200 0, .bus 0x200 0]
    s.program[s.index + 1 + 0]? = some (.bus 0x200 0) ∧ (s.program.drop (s.index + 1)).take 0 = [] ∧
      isPerformed (descSize 0x200) (descOff 0x200) = true ∧ descDir 0x200 = .read :=
  ⟨rfl, rfl, rfl, rfl⟩

theorem witness_OnlyCrcInstructionsWriteTheAccumulator :
    ∀ i ∈ ([.wrCrc 0, .crcInit, .crcByte 0, .crcRange .cmdFrame 0 8] : List Instr),
    (∃ t, exec i (onBlock (withCrc 0x1234 parsedP1)) = .next t) ∧
      (ran i (withCrc 0x1234 parsedP1)).block.crc ≠ (withCrc 0x1234 parsedP1).crc := by
  simp only [List.forall_mem_cons, List.not_mem_nil, false_implies, implies_true, and_true]
  exact ⟨⟨⟨_, rfl⟩, by decide +kernel⟩, ⟨⟨_, rfl⟩, by decide +kernel⟩, ⟨⟨_, rfl⟩, by decide +kernel⟩,
    ⟨_, rfl⟩, by decide +kernel⟩

theorem witness_OnlyBufferCommandsWriteTheBuffer :
    (∃ t, exec .bufClear (onBlock parsedP1) = .next t) ∧ (ran .bufClear parsedP1).block.count ≠ parsedP1.count ∧
    (∃ t, exec (.bufPush 1) State.reset = .next t) ∧
    (ran (.bufPush 1) Block.reset).block.buf ≠ Block.reset.buf ∧ (14 : Nat) ≠ Block.reset.count.toNat :=
  ⟨⟨_, rfl⟩, by decide, ⟨_, rfl⟩, by decide, by decide⟩

theorem witness_SampleFieldsChangeOnlyOnAcceptedParse :
    (∃ t, exec .parse (onBlock (fullBlock frameP1)) = .next t) ∧
    (ran .parse (fullBlock frameP1)).block.sample ≠ (fullBlock frameP1).sample ∧
    (ran .parse (fullBlock frameP1)).block.calcCrc ≠ (fullBlock frameP1).calcCrc ∧
    (ran .parse (fullBlock frameP1)).block.pres = .ok :=
  ⟨⟨_, rfl⟩, by decide +kernel, by decide +kernel, by decide +kernel⟩

theorem witness_StickyFlagsAreSetAndClearedByNamedEventsOnly :
    let b := { parsedP1 with cmdErr := true, ovf := true }
    (∃ t, exec (.wrStatus 0x30) (onBlock b) = .next t) ∧ (ran (.wrStatus 0x30) b).block.cmdErr = false ∧
      (ran (.wrStatus 0x30) b).block.ovf = false ∧ (ran (.wrCmd 0x00000007) parsedP1).block.cmdErr = true ∧
      (ran (.crcRange .buf 15 1) parsedP1).block.cmdErr = true ∧ (ran (.bufPush 0) parsedP1).block.ovf = true :=
  ⟨⟨_, rfl⟩, by decide +kernel, by decide +kernel, by decide +kernel, by decide +kernel, by decide +kernel⟩

/-- Both branches of every condition, at its bound. -/
theorem witness_AssembledStatementsAreTheirTransactions :
    (255 < 256 ∧ ¬256 < 256) ∧ (0x7C % 4 = 0 ∧ 0x7C < 0x80) ∧ ¬(0x80 % 4 = 0 ∧ 0x80 < 0x80) ∧ ¬(6 % 4 = 0 ∧ 6 < 0x80) ∧
    (2 ^ 32 - 1 < 2 ^ 32 ∧ ¬2 ^ 32 < 2 ^ 32) ∧
    (List.replicate 15 255 ≠ [] ∧ (List.replicate 15 255).length ≤ 15 ∧ ∀ n ∈ List.replicate 15 255, n < 256) ∧
    ¬(List.replicate 16 0).length ≤ 15 ∧ ¬∀ n ∈ [0, 256], n < 256 := by decide +kernel

end Sys2Proof.Tests
end

/-! The register window in the host's address space (spec/20_memory.md R60, R61), and the fields of
a transaction descriptor (spec/30_encoding.md R92). -/

namespace Sys2Proof

/-! ### The fields of a descriptor -/

@[simp] theorem AccessSize.ofCode_code (size : AccessSize) : AccessSize.ofCode size.code = size := by
  cases size <;> rfl

@[simp] theorem descSize_descriptor (size : AccessSize) (dir : Dir) (off : BitVec 7) :
    descSize (descriptor size dir off) = size := by
  have hcode : (descriptor size dir off).extractLsb' 8 2 = size.code := by
    ext i hi
    have hdir : dir.code.getLsbD (8 + i - 7) = false := BitVec.getLsbD_of_ge _ _ (by omega)
    have hoff : off.getLsbD (8 + i) = false := BitVec.getLsbD_of_ge _ _ (by omega)
    have hsum : 8 + i < 10 := by omega
    simp [descriptor, hdir, hoff, hsum, BitVec.getLsbD_eq_getElem hi]
  rw [descSize, hcode, AccessSize.ofCode_code]

@[simp] theorem descDir_descriptor (size : AccessSize) (dir : Dir) (off : BitVec 7) :
    descDir (descriptor size dir off) = dir := by
  have hbit : (descriptor size dir off).getLsbD 7 = dir.code.getLsbD 0 := by simp [descriptor]
  rw [descDir, hbit]
  cases dir <;> rfl

@[simp] theorem descOff_descriptor (size : AccessSize) (dir : Dir) (off : BitVec 7) :
    descOff (descriptor size dir off) = off := by
  ext i hi
  have hsize : i < 8 := by omega
  have hwidth : i < 10 := by omega
  simp [descOff, descriptor, hi, hsize, hwidth]

/-- R84, R92: a descriptor with its write value stands for the tuple it was built from. -/
@[simp] theorem transaction_bus_descriptor (size : AccessSize) (dir : Dir) (off : BitVec 7) (v : Word) :
    (Entry.bus (descriptor size dir off) v).transaction =
      { dir := dir, off := off, size := size, wdata := v } := by
  simp [Entry.transaction]

/-! ### The window -/

/-- R9: nothing is known of BASE but its alignment. -/
theorem base_mod_windowSize : Config.base % Config.windowSize = 0 :=
  Nat.mul_mod_right Config.windowSize Config.baseSlot

/-- R60: the address of an offset is that offset's own. -/
@[simp] theorem windowOffset_effectiveAddress (off : BitVec 7) :
    windowOffset (effectiveAddress off) = some off := by
  have hin : Config.base ≤ effectiveAddress off ∧
      effectiveAddress off < Config.base + Config.windowSize :=
    ⟨Nat.le_add_right .., Nat.add_lt_add_left off.isLt _⟩
  rw [windowOffset, if_pos hin, effectiveAddress, Nat.add_sub_cancel_left, BitVec.ofNat_toNat,
    BitVec.setWidth_eq]

/-- R61: exactly the addresses outside the window have no offset. -/
theorem windowOffset_eq_none_iff (addr : Nat) :
    windowOffset addr = none ↔ addr < Config.base ∨ Config.base + Config.windowSize ≤ addr := by
  rw [windowOffset, ite_eq_right_iff]
  grind

theorem hostAccess_eq_map (dir : Dir) (addr : Nat) (size : AccessSize) (v : Word) :
    hostAccess dir addr size v =
      (windowOffset addr).map fun off => .bus (descriptor size dir off) v := by
  unfold hostAccess
  cases windowOffset addr <;> rfl

/-- R60, R84: an access at the address of an offset is the transaction at that offset. -/
theorem hostAccess_effectiveAddress (dir : Dir) (off : BitVec 7) (size : AccessSize) (v : Word) :
    (hostAccess dir (effectiveAddress off) size v).map Entry.transaction =
      some { dir := dir, off := off, size := size, wdata := v } := by
  simp [hostAccess_eq_map]

/-- R61: exactly the accesses outside the window do not reach the block. -/
theorem hostAccess_eq_none_iff (dir : Dir) (addr : Nat) (size : AccessSize) (v : Word) :
    hostAccess dir addr size v = none ↔
      addr < Config.base ∨ Config.base + Config.windowSize ≤ addr := by
  rw [hostAccess_eq_map, Option.map_eq_none_iff, windowOffset_eq_none_iff]

/-- Settles O52: the alignment of BASE, the window's own addresses, and the addresses outside it. -/
theorem windowAddressesReachTheirOffsets : Obligations.WindowAddressesReachTheirOffsets :=
  ⟨base_mod_windowSize, hostAccess_effectiveAddress, hostAccess_eq_none_iff⟩

end Sys2Proof

/-! What an instruction can do: the block it leaves, and what happens to the runner around it
(spec/10_state.md R21 to R26). Every frame and invariant statement below is read off these cases. -/

namespace Sys2Proof.Machine

/-! ### The commands by name -/

@[simp] theorem Block.runCommand_nop (b : Block) : b.runCommand .nop = b := rfl
@[simp] theorem Block.runCommand_crcInit (b : Block) : b.runCommand .crcInit = b.crcInit := rfl
@[simp] theorem Block.runCommand_crcByte (b : Block) (a : Byte) :
    b.runCommand (.crcByte a) = b.crcByte a := rfl
@[simp] theorem Block.runCommand_crcRange (b : Block) (src : CrcSource) (a len : Byte) :
    b.runCommand (.crcRange src a len) = b.crcRange src a len := rfl
@[simp] theorem Block.runCommand_bufClear (b : Block) : b.runCommand .bufClear = b.bufClear := rfl
@[simp] theorem Block.runCommand_bufPush (b : Block) (a : Byte) :
    b.runCommand (.bufPush a) = b.bufPush a := rfl
@[simp] theorem Block.runCommand_parse (b : Block) : b.runCommand .parse = b.parse := rfl

/-! ### The effect of an instruction on the block -/

/-- What an instruction can make of the block `b`. -/
inductive BlockEffect (i : Instr) (b : Block) : Block → Prop where
  /-- A read, a write to a register that ignores it, or a BusError. -/
  | unchanged (hc : carriedCommand i = none) : BlockEffect i b b
  /-- R88, R161: a command, itself or as a word written to CMD. -/
  | command (c : Command) (hc : carriedCommand i = some c) : BlockEffect i b (b.runCommand c)
  /-- R90: an illegal word written to CMD. -/
  | rejected (w : Word) (r : DecodeError) (hi : i = .wrCmd w) (hw : decodeCommand w = .error r) :
      BlockEffect i b b.setCmdErr
  /-- R163. -/
  | clearFlags (v : Word) (hi : i = .wrStatus v) : BlockEffect i b (b.clearFlags v)
  /-- R165. -/
  | seedCrc (v : Word) (hi : i = .wrCrc v) : BlockEffect i b { b with crc := v.setWidth 16 }

theorem BlockEffect.writeCmd (w : Word) (b : Block) : BlockEffect (.wrCmd w) b (b.writeCmd w) := by
  rcases b.writeCmd_cases w with ⟨c, hc, he⟩ | ⟨r, hr, he⟩ <;> rw [he]
  · exact .command c (by simp [carriedCommand, hc, Except.toOption])
  · exact .rejected w r rfl hr

/-- R176, R160 to R175, R161 to R167: whatever the state, an instruction is a performed read, a performed
write with a known effect on the block, or a BusError. -/
theorem exec_cases (i : Instr) :
    (∃ r, carriedCommand i = none ∧ ∀ s, exec i s = performRead r s) ∨
    (∃ effect : Block → Block, (∀ b, BlockEffect i b (effect b)) ∧
      ∀ s, exec i s = performCommand effect s) ∨
    (∃ off size dir, carriedCommand i = none ∧ ∀ s, exec i s = .next (s.raiseBusError off size dir)) := by
  cases i with
  | nop | crcInit | crcByte | crcRange | bufClear | bufPush | parse =>
    exact .inr (.inl ⟨_, fun _ => .command _ rfl, fun _ => rfl⟩)
  | rdCmd | rdStatus | rdCrc | rdCount | rdBuf0 | rdBuf1 | rdBuf2 | rdBuf3 | rdDist | rdMag | rdAmbient
  | rdPrecision | rdFrameCrc | rdRsvd34 | rdRsvd38 | rdRsvd3C | rdCmdframe0 | rdCmdframe1 | rdCmdframe2
  | rdRsvd4C | rdRsvd50 | rdRsvd54 | rdRsvd58 | rdRsvd5C | rdRsvd60 | rdRsvd64 | rdRsvd68 | rdRsvd6C
  | rdRsvd70 | rdRsvd74 | rdRsvd78 | rdRsvd7C =>
    exact .inl ⟨_, rfl, fun _ => rfl⟩
  | wrCmd v => exact .inr (.inl ⟨_, BlockEffect.writeCmd v, fun _ => rfl⟩)
  | wrStatus v => exact .inr (.inl ⟨_, fun _ => .clearFlags v rfl, fun _ => rfl⟩)
  | wrCrc v => exact .inr (.inl ⟨_, fun _ => .seedCrc v rfl, fun _ => rfl⟩)
  | wrCount | wrBuf0 | wrBuf1 | wrBuf2 | wrBuf3 | wrDist | wrMag | wrAmbient | wrPrecision | wrFrameCrc
  | wrRsvd34 | wrRsvd38 | wrRsvd3C | wrCmdframe0 | wrCmdframe1 | wrCmdframe2 | wrRsvd4C | wrRsvd50
  | wrRsvd54 | wrRsvd58 | wrRsvd5C | wrRsvd60 | wrRsvd64 | wrRsvd68 | wrRsvd6C | wrRsvd70 | wrRsvd74
  | wrRsvd78 | wrRsvd7C =>
    exact .inr (.inl ⟨_, fun _ => .unchanged rfl, fun _ => rfl⟩)
  | busErr1Byte | busErr2Byte | busErr8Byte | busErrOffLow1 | busErrOffLow2 | busErrOffLow3 =>
    exact .inr (.inr ⟨_, _, _, rfl, fun _ => rfl⟩)

/-- The block after an instruction is one of the named effects on the block before it. -/
theorem exec_blockEffect {i : Instr} {s t : State} (h : exec i s = .next t) :
    BlockEffect i s.block t.block := by
  rcases exec_cases i with ⟨r, hc, he⟩ | ⟨effect, heffect, he⟩ | ⟨off, size, dir, hc, he⟩ <;>
    rw [he] at h <;> cases h
  · exact .unchanged hc
  · exact heffect s.block
  · exact .unchanged hc

/-! ### The runner around an instruction -/

/-- R21: an instruction always completes, and moves the runner's index alone. -/
theorem exec_answers_next (i : Instr) (s : State) :
    ∃ t, exec i s = .next t ∧ t.index = s.index + 1 ∧ t.program = s.program ∧ t.resets = s.resets := by
  rcases exec_cases i with ⟨r, _, he⟩ | ⟨effect, _, he⟩ | ⟨off, size, dir, _, he⟩ <;>
    exact ⟨_, he s, rfl, rfl, rfl⟩

theorem exec_runner {i : Instr} {s t : State} (h : exec i s = .next t) :
    t.index = s.index + 1 ∧ t.program = s.program ∧ t.resets = s.resets := by
  obtain ⟨u, hu, hrunner⟩ := exec_answers_next i s
  cases hu.symm.trans h
  exact hrunner

/-- R21: what an instruction does has nothing to do with where in the list it stands. -/
theorem exec_at_other_index {i : Instr} {s t : State} (n : Nat) (h : exec i s = .next t) :
    exec i { s with index := n } = .next { t with index := n + 1 } := by
  rcases exec_cases i with ⟨r, _, he⟩ | ⟨effect, _, he⟩ | ⟨off, size, dir, _, he⟩ <;>
    rw [he] at h ⊢ <;> cases h <;> rfl

/-- Settles O42: the three ways of `exec_cases` all end in a next state. -/
theorem everyInstructionAnswersANextState : Obligations.EveryInstructionAnswersANextState :=
  exec_answers_next

/-! ### The runner around a step -/

theorem State.nextIs.index_lt {s : State} {e : Entry} (h : s.nextIs e) :
    s.index < s.program.length := by
  obtain ⟨_, _, he⟩ := h
  exact (List.getElem?_eq_some_iff.mp he).1

theorem State.nextIs.resetDue_eq_false {s : State} {e : Entry} (h : s.nextIs e) :
    s.resetDue = false := by
  obtain ⟨_, hdue, _⟩ := h
  exact hdue

/-- R21: a reset event leaves the index alone; a transaction was within the list, and moves it by one. -/
theorem step_runner {s t : State} (h : step s = .next t) :
    t.program = s.program ∧
      (s.resetDue = true → t.index = s.index) ∧
      (s.resetDue = false → s.index < s.program.length ∧ t.index = s.index + 1) := by
  obtain ⟨_, ⟨hdue, rfl⟩ | ⟨e, i, hnext, _, hexec⟩ | ⟨e, r, hnext, _, rfl⟩⟩ := step_cases h
  · exact ⟨rfl, fun _ => rfl, fun hfree => by simp [hdue] at hfree⟩
  · obtain ⟨hindex, hprogram, _⟩ := exec_runner hexec
    exact ⟨hprogram, fun hdue => by simp [hnext.resetDue_eq_false] at hdue, fun _ => ⟨hnext.index_lt, hindex⟩⟩
  · exact ⟨rfl, fun hdue => by simp [hnext.resetDue_eq_false] at hdue, fun _ => ⟨hnext.index_lt, rfl⟩⟩

/-- R21: the only refusal of a step is the one at the end of the list. -/
theorem step_eq_runEnded_iff (s : State) :
    step s = .refused .runEnded ↔
      s.mark = none ∧ s.resetDue = false ∧ s.program.length ≤ s.index := by
  constructor
  · intro h
    unfold step at h
    split at h
    · cases h
    · rename_i hmark
      split at h
      · cases h
      · rename_i hdue
        split at h
        · rename_i hfetch
          exact ⟨hmark, by simpa using hdue, List.getElem?_eq_none_iff.mp hfetch⟩
        · split at h
          · rename_i i _
            obtain ⟨t, ht, _⟩ := exec_answers_next i s
            cases ht.symm.trans h
          · cases h
  · rintro ⟨hmark, hdue, hlen⟩
    have hfetch : s.fetch = none := List.getElem?_eq_none_iff.mpr hlen
    simp [step, hmark, hdue, hfetch]

/-- Settles O43: the three facts about the runner, and the index of the reset state. -/
theorem onlyTransactionsMoveTheIndex : Obligations.OnlyTransactionsMoveTheIndex :=
  ⟨fun _ _ => step_runner, step_eq_runEnded_iff, fun _ _ _ n => exec_at_other_index n, rfl⟩

/-! ### The invariant -/

/-- R29: no effect of an instruction breaks I1 to I4. -/
theorem BlockEffect.keeps_inv {i : Instr} {b c : Block} (h : BlockEffect i b c) (hb : b.Inv) : c.Inv := by
  cases h with
  | unchanged _ => exact hb
  | command cmd _ => exact hb.runCommand cmd
  | rejected _ _ _ _ | clearFlags _ _ | seedCrc _ _ => exact hb.of_eq rfl rfl rfl rfl rfl rfl

theorem step_keeps_block_inv {s t : State} (hs : s.block.Inv) (h : step s = .next t) : t.block.Inv := by
  obtain ⟨_, ⟨_, rfl⟩ | ⟨_, _, _, _, hexec⟩ | ⟨_, _, _, _, rfl⟩⟩ := step_cases h
  · exact Block.reset_inv
  · exact (exec_blockEffect hexec).keeps_inv hs
  · exact hs.of_eq rfl rfl rfl rfl rfl rfl

theorem step_keeps_index_bound {s t : State} (hs : s.index ≤ s.program.length) (h : step s = .next t) :
    t.index ≤ t.program.length := by
  obtain ⟨hprogram, hreset, htransaction⟩ := step_runner h
  rw [hprogram]
  cases hdue : s.resetDue with
  | true => rw [hreset hdue]; exact hs
  | false =>
    obtain ⟨hlt, hindex⟩ := htransaction hdue
    omega

/-- Settles O4: the block's invariants and the bound of the index, each kept by every step. -/
theorem everyStepKeepsTheInvariant : Obligations.EveryStepKeepsTheInvariant :=
  fun _ _ hs h =>
    { block := step_keeps_block_inv hs.block h
      indexBound := step_keeps_index_bound hs.indexBound h }

/-- Settles O3, by the reset values of the block (R220). -/
theorem resetStateMeetsTheInvariant : Obligations.ResetStateMeetsTheInvariant :=
  { block := Block.reset_inv
    indexBound := Nat.le_refl 0 }

/-! ### What the elements of the block are changed by -/

/-- R22, R137: the effects that reach CRC. -/
theorem BlockEffect.of_crc_ne {i : Instr} {b c : Block} (h : BlockEffect i b c) (hne : c.crc ≠ b.crc) :
    (∃ v, i = .wrCrc v) ∨ carriedCommand i = some .crcInit ∨
      (∃ a, carriedCommand i = some (.crcByte a)) ∨
      (∃ src a len, carriedCommand i = some (.crcRange src a len)) := by
  cases h with
  | command cmd hc =>
    cases cmd with
    | crcInit => exact .inr (.inl hc)
    | crcByte a => exact .inr (.inr (.inl ⟨a, hc⟩))
    | crcRange src a len => exact .inr (.inr (.inr ⟨src, a, len, hc⟩))
    | nop | bufClear | bufPush | parse => simp at hne
  | seedCrc v hi => exact .inl ⟨v, hi⟩
  | unchanged _ | rejected _ _ _ _ | clearFlags _ _ => exact absurd rfl hne

/-- Settles O46, by the effects that reach CRC. -/
theorem onlyCrcInstructionsWriteTheAccumulator : Obligations.OnlyCrcInstructionsWriteTheAccumulator :=
  fun _ _ _ hexec => (exec_blockEffect hexec).of_crc_ne

/-- R132: a push reaches no byte but the one at COUNT. -/
theorem Block.bufPush_buf_ne (b : Block) (a : Byte) (j : Nat) (hj : j < 15) (hne : j ≠ b.count.toNat) :
    (b.bufPush a).buf[j] = b.buf[j] := by
  rcases b.bufPush_cases a with ⟨hroom, he⟩ | ⟨_, he⟩ <;> simp only [he]
  exact Vector.getElem_set_ne _ _ (Ne.symm hne)

/-- R23: the effects that reach BUF and COUNT. -/
theorem BlockEffect.of_buffer_ne {i : Instr} {b c : Block} (h : BlockEffect i b c)
    (hne : c.buf ≠ b.buf ∨ c.count ≠ b.count) :
    carriedCommand i = some .bufClear ∨ ∃ a, carriedCommand i = some (.bufPush a) := by
  cases h with
  | command cmd hc =>
    cases cmd with
    | bufClear => exact .inl hc
    | bufPush a => exact .inr ⟨a, hc⟩
    | nop | crcInit | crcByte | crcRange | parse => simp at hne
  | unchanged _ | rejected _ _ _ _ | clearFlags _ _ | seedCrc _ _ => simp at hne

/-- An instruction that carries a command has that command's effect. -/
theorem BlockEffect.of_carried {i : Instr} {b c : Block} {cmd : Command} (h : BlockEffect i b c)
    (hcarried : carriedCommand i = some cmd) : c = b.runCommand cmd := by
  cases h with
  | command cmd' hc => cases hc.symm.trans hcarried; rfl
  | unchanged hc => cases hc.symm.trans hcarried
  | rejected w r hi hw => simp [hi, carriedCommand, hw, Except.toOption] at hcarried
  | clearFlags v hi | seedCrc v hi => simp [hi, carriedCommand] at hcarried

/-- Settles O47, by the effects that reach the buffer, and what a push leaves of it. -/
theorem onlyBufferCommandsWriteTheBuffer : Obligations.OnlyBufferCommandsWriteTheBuffer := by
  intro i s t hexec
  have heffect := exec_blockEffect hexec
  refine ⟨heffect.of_buffer_ne, fun a hcarried j hj hne => ?_⟩
  simp only [heffect.of_carried hcarried]
  exact s.block.bufPush_buf_ne a j hj hne

/-! ### What PARSE writes -/

/-- R24 to R26: the effects that reach PRES, the checksums and the sample fields. -/
theorem BlockEffect.of_result_ne {i : Instr} {b c : Block} (h : BlockEffect i b c)
    (hne : c.pres ≠ b.pres ∨ c.calcCrc ≠ b.calcCrc ∨ c.recvCrc ≠ b.recvCrc ∨ c.sample ≠ b.sample) :
    carriedCommand i = some .parse ∧ c = b.parse := by
  cases h with
  | command cmd hc =>
    cases cmd with
    | parse => exact ⟨hc, rfl⟩
    | nop | crcInit | crcByte | crcRange | bufClear | bufPush => simp at hne
  | unchanged _ | rejected _ _ _ _ | clearFlags _ _ | seedCrc _ _ => simp at hne

/-- R26: the checksums are written by a PARSE that got as far as computing one. -/
theorem Block.parse_pres_of_crc_ne (b : Block)
    (hne : b.parse.calcCrc ≠ b.calcCrc ∨ b.parse.recvCrc ≠ b.recvCrc) :
    b.parse.pres = .ok ∨ b.parse.pres = .checksumMismatch := by
  rcases b.parse_cases with ⟨_, he⟩ | ⟨_, _, he⟩ | ⟨_, _, _, he⟩ | ⟨_, _, _, he⟩
  · simp [he] at hne
  · simp [he] at hne
  · simp [he]
  · simp [he]

/-- R25: only an accepting PARSE writes the sample fields. -/
theorem Block.parse_pres_of_sample_ne (b : Block) (hne : b.parse.sample ≠ b.sample) :
    b.parse.pres = .ok := by
  rcases b.parse_cases with ⟨_, he⟩ | ⟨_, _, he⟩ | ⟨_, _, _, he⟩ | ⟨_, _, _, he⟩
  · simp [he] at hne
  · simp [he] at hne
  · simp [he] at hne
  · simp [he]

/-- R25: an accepting PARSE writes all five sample fields from the buffer. -/
theorem Block.parse_sample_of_pres_ok (b : Block) (hok : b.parse.pres = .ok) :
    b.parse.sample = extractSample b.buf := by
  rcases b.parse_cases with ⟨_, he⟩ | ⟨_, _, he⟩ | ⟨_, _, _, he⟩ | ⟨_, _, _, he⟩
  · simp [he] at hok
  · simp [he] at hok
  · simp [he] at hok
  · simp [he]

/-- Settles O48: the effect is that of PARSE, whose four results say when each element is written. -/
theorem sampleFieldsChangeOnlyOnAcceptedParse : Obligations.SampleFieldsChangeOnlyOnAcceptedParse := by
  intro i s t hexec
  have heffect := exec_blockEffect hexec
  refine ⟨fun hne => (heffect.of_result_ne hne).1, fun hne => ?_, fun hne => ?_, fun hparse hok => ?_, rfl⟩
  · have ht : t.block = s.block.parse :=
      (heffect.of_result_ne (hne.elim (fun h => .inr (.inl h)) fun h => .inr (.inr (.inl h)))).2
    rw [ht] at hne ⊢
    exact s.block.parse_pres_of_crc_ne hne
  · have ht : t.block = s.block.parse := (heffect.of_result_ne (.inr (.inr (.inr hne)))).2
    rw [ht] at hne ⊢
    exact s.block.parse_pres_of_sample_ne hne
  · have ht : t.block = s.block.parse := heffect.of_carried hparse
    rw [ht] at hok ⊢
    exact s.block.parse_sample_of_pres_ok hok

/-! ### The sticky flags -/

/-- R117: a CRC_RANGE sets CMD_ERR exactly when its range fails. -/
theorem Block.crcRange_cmdErr (b : Block) (src : CrcSource) (a len : Byte) :
    (b.crcRange src a len).cmdErr =
      (b.cmdErr || decide (b.sourceLimit src < a.toNat + len.toNat)) := by
  rcases b.crcRange_cases src a len with ⟨hfails, he⟩ | ⟨hfits, he⟩ <;> rw [he]
  · simp [hfails]
  · simp [Nat.not_lt.mpr hfits]

/-- R132: a BUF_PUSH sets OVF exactly when the buffer is full. -/
theorem Block.bufPush_ovf (b : Block) (a : Byte) :
    (b.bufPush a).ovf = (b.ovf || decide (b.count.toNat = 15)) := by
  rcases b.bufPush_cases a with ⟨hroom, he⟩ | ⟨hfull, he⟩ <;> rw [he]
  · simp [Nat.ne_of_lt hroom]
  · simp [hfull]

/-- R200: CMD_ERR is cleared by a write of 1 to its bit alone. -/
theorem BlockEffect.of_cmdErr_cleared {i : Instr} {b c : Block} (h : BlockEffect i b c)
    (hb : b.cmdErr = true) (hc : c.cmdErr = false) : ∃ v, i = .wrStatus v ∧ v.getLsbD 4 = true := by
  cases h with
  | clearFlags v hi => exact ⟨v, hi, by simpa [hb] using hc⟩
  | command cmd _ =>
    cases cmd with
    | crcRange src a len => simp [Block.crcRange_cmdErr, hb] at hc
    | nop | crcInit | crcByte | bufClear | bufPush | parse => simp [hb] at hc
  | unchanged _ | rejected _ _ _ _ | seedCrc _ _ => simp [hb] at hc

/-- R200: OVF is cleared by a write of 1 to its bit alone. -/
theorem BlockEffect.of_ovf_cleared {i : Instr} {b c : Block} (h : BlockEffect i b c)
    (hb : b.ovf = true) (hc : c.ovf = false) : ∃ v, i = .wrStatus v ∧ v.getLsbD 5 = true := by
  cases h with
  | clearFlags v hi => exact ⟨v, hi, by simpa [hb] using hc⟩
  | command cmd _ =>
    cases cmd with
    | bufPush a => simp [Block.bufPush_ovf, hb] at hc
    | nop | crcInit | crcByte | crcRange | bufClear | parse => simp [hb] at hc
  | unchanged _ | rejected _ _ _ _ | seedCrc _ _ => simp [hb] at hc

/-- R194: CMD_ERR is set by an illegal word or by a range that fails. -/
theorem BlockEffect.of_cmdErr_set {i : Instr} {b c : Block} (h : BlockEffect i b c)
    (hb : b.cmdErr = false) (hc : c.cmdErr = true) :
    (∃ w r, i = .wrCmd w ∧ decodeCommand w = .error r) ∨
      ∃ src a len, carriedCommand i = some (.crcRange src a len) ∧
        b.sourceLimit src < a.toNat + len.toNat := by
  cases h with
  | rejected w r hi hw => exact .inl ⟨w, r, hi, hw⟩
  | command cmd hcarried =>
    cases cmd with
    | crcRange src a len =>
      exact .inr ⟨src, a, len, hcarried, by simpa [Block.crcRange_cmdErr, hb] using hc⟩
    | nop | crcInit | crcByte | bufClear | bufPush | parse => simp [hb] at hc
  | unchanged _ | clearFlags _ _ | seedCrc _ _ => simp [hb] at hc

/-- R195: OVF is set by a push into a full buffer. -/
theorem BlockEffect.of_ovf_set {i : Instr} {b c : Block} (h : BlockEffect i b c)
    (hb : b.ovf = false) (hc : c.ovf = true) :
    b.count.toNat = 15 ∧ ∃ a, carriedCommand i = some (.bufPush a) := by
  cases h with
  | command cmd hcarried =>
    cases cmd with
    | bufPush a => exact ⟨by simpa [Block.bufPush_ovf, hb] using hc, a, hcarried⟩
    | nop | crcInit | crcByte | crcRange | bufClear | parse => simp [hb] at hc
  | unchanged _ | rejected _ _ _ _ | clearFlags _ _ | seedCrc _ _ => simp [hb] at hc

/-- The two events that set the flags are different instructions. -/
theorem BlockEffect.not_both_set {i : Instr} {b c : Block} (h : BlockEffect i b c) :
    ¬(b.cmdErr = false ∧ c.cmdErr = true ∧ b.ovf = false ∧ c.ovf = true) := by
  rintro ⟨herr, herr', hovf, hovf'⟩
  obtain ⟨_, a, hpush⟩ := h.of_ovf_set hovf hovf'
  have hc : c = b.bufPush a := h.of_carried hpush
  simp [hc, herr] at herr'

/-- Settles O49, by the effects that clear and that set each flag. -/
theorem stickyFlagsAreSetAndClearedByNamedEventsOnly :
    Obligations.StickyFlagsAreSetAndClearedByNamedEventsOnly := by
  intro i s t hexec
  have heffect := exec_blockEffect hexec
  refine ⟨heffect.of_cmdErr_cleared, heffect.of_ovf_cleared, fun hb hc => ?_, heffect.of_ovf_set,
    heffect.not_both_set⟩
  rcases heffect.of_cmdErr_set hb hc with hillegal | ⟨src, a, len, hcarried, hfails⟩
  · exact .inl hillegal
  · exact .inr ⟨src, a, len, hcarried, by cases src <;> exact hfails⟩

/-! ### A buffer filled by pushes -/

theorem Block.bufPush_frame (b : Block) (a : Byte) :
    b.bufPush a = { b with count := (b.bufPush a).count, buf := (b.bufPush a).buf,
                           ovf := (b.bufPush a).ovf } := by
  rcases b.bufPush_cases a with ⟨_, he⟩ | ⟨_, he⟩ <;> rw [he]

/-- R132: COUNT goes up to fifteen and stays there. -/
theorem Block.bufPush_count (b : Block) (a : Byte) :
    (b.bufPush a).count.toNat = min 15 (b.count.toNat + 1) := by
  rcases b.bufPush_cases a with ⟨hroom, he⟩ | ⟨hfull, he⟩ <;> simp only [he]
  · have hsum : (b.count + 1).toNat = b.count.toNat + 1 :=
      BitVec.toNat_add_of_lt (by simpa using Nat.add_lt_add_right hroom 1)
    omega
  · omega

/-- R23: the block `b` is `start` but for a buffer that was cleared and then given the bytes `d`, and for
the flag of the bytes that were dropped. -/
structure Block.Collected (start : Block) (d : List Byte) (b : Block) : Prop where
  frame : b = { start with count := b.count, buf := b.buf, ovf := b.ovf }
  ovf : b.ovf = (start.ovf || decide (15 < d.length))
  count : b.count.toNat = min 15 d.length
  bytes : ∀ (i : Nat) (h : i < 15), b.buf[i] = d.getD i 0x00

/-- R131. -/
theorem Block.collected_bufClear (b : Block) : b.Collected [] b.bufClear where
  frame := rfl
  ovf := by simp
  count := by simp
  bytes := by simp

/-- R132: a push adds its byte at the end, or finds fifteen bytes there already. -/
theorem Block.Collected.bufPush {start b : Block} {d : List Byte} (h : start.Collected d b) (a : Byte) :
    start.Collected (d ++ [a]) (b.bufPush a) where
  frame := (b.bufPush_frame a).trans (congrArg
    (fun c : Block => { c with count := (b.bufPush a).count, buf := (b.bufPush a).buf,
                               ovf := (b.bufPush a).ovf }) h.frame)
  ovf := by
    rw [b.bufPush_ovf, h.ovf, h.count, Bool.or_assoc, ← Bool.decide_or]
    congr 2
    rw [List.length_append, List.length_singleton]
    exact propext (by omega)
  count := by
    rw [b.bufPush_count, h.count, List.length_append, List.length_singleton]
    omega
  bytes := by
    intro i hi
    have hcount := h.count
    rcases b.bufPush_cases a with ⟨hroom, he⟩ | ⟨hfull, he⟩ <;> simp only [he]
    · have hend : b.count.toNat = d.length := by omega
      rw [Vector.getElem_set]
      split
      · next heq => simp [← heq, hend]
      · next hne =>
        rw [h.bytes i hi]
        grind
    · have hwithin : i < d.length := by omega
      rw [h.bytes i hi]
      simp [List.getElem?_append_left hwithin]

theorem Block.collected_pushes (b : Block) (d : List Byte) :
    b.Collected d (d.foldl (fun c a => c.bufPush a) b.bufClear) := by
  induction d using List.reverseRecOn with
  | nil => exact b.collected_bufClear
  | append_singleton d a ih =>
    rw [List.foldl_append]
    exact ih.bufPush a

/-- A list of BUF_PUSH completes, and its bytes are pushed one after the other. -/
theorem execAll_bufPush (d : List Byte) (s : State) :
    ∃ t, execAll (d.map Instr.bufPush) s = .next t ∧
      t.block = d.foldl (fun b a => b.bufPush a) s.block := by
  induction d generalizing s with
  | nil => exact ⟨s, rfl, rfl⟩
  | cons a d ih => exact ih (s.finish none (s.block.bufPush a))

/-- Settles O51, by induction on the bytes pushed. -/
theorem pushedBytesFillTheBufferInOrder : Obligations.PushedBytesFillTheBufferInOrder := by
  intro d s
  obtain ⟨t, hexec, hblock⟩ := execAll_bufPush d (s.finish none s.block.bufClear)
  obtain ⟨hframe, hovf, hcount, hbytes⟩ : s.block.Collected d t.block :=
    hblock ▸ s.block.collected_pushes d
  exact ⟨t, hexec, hovf ▸ hframe, hcount, hbytes⟩

/-! ### The buffer as the host reads it -/

/-- R35: each byte of a packed word is the byte of the string it was packed from; the three others are
shifted past it. -/
theorem extractLsb'_packWord (bytes : List Byte) (w k : Nat) (hk : k < 4) :
    (packWord bytes w).extractLsb' (8 * k) 8 = bytes.getD (4 * w + k) 0 := by
  unfold packWord
  ext j hj
  interval_cases k <;> grind

/-- R168: index 15 is beyond the buffer and reads 0. -/
theorem Block.getD_buf (b : Block) (i : Nat) :
    b.buf.toList.getD i 0 = if h : i < 15 then b.buf[i] else 0x00 := by
  split
  · next h => simp [h]
  · next h => simp [h]

/-- R168: the bytes of a word of the buffer. -/
theorem Block.extractLsb'_packWord_buf (b : Block) (w k : Nat) (hk : k < 4) :
    (packWord b.buf.toList w).extractLsb' (8 * k) 8 =
      if h : 4 * w + k < 15 then b.buf[4 * w + k] else 0x00 :=
  (extractLsb'_packWord _ w k hk).trans (b.getD_buf _)

/-- R35: a packed word depends on its four bytes alone. -/
theorem packWord_eq_of_getD_eq {bytes : List Byte} {y : Nat → Byte} (w : Nat)
    (h : ∀ k < 4, bytes.getD (4 * w + k) 0 = y (4 * w + k)) :
    packWord bytes w = ((y (4 * w)).setWidth 32 ||| ((y (4 * w + 1)).setWidth 32 <<< 8)
      ||| ((y (4 * w + 2)).setWidth 32 <<< 16) ||| ((y (4 * w + 3)).setWidth 32 <<< 24)) := by
  have h0 : bytes.getD (4 * w) 0 = y (4 * w) := h 0 (by decide)
  rw [packWord, h0, h 1 (by decide), h 2 (by decide), h 3 (by decide)]

/-- R29, I2: in a state that meets the invariant, the bytes at COUNT and above read 0. -/
theorem Block.Inv.packWord_buf_rest {b : Block} (hb : b.Inv) (w k : Nat) (hk : k < 4)
    (hcount : b.count.toNat ≤ 4 * w + k) : (packWord b.buf.toList w).extractLsb' (8 * k) 8 = 0x00 := by
  rw [b.extractLsb'_packWord_buf w k hk]
  split
  · next h => exact hb.restZero _ h hcount
  · rfl

/-- R220: the words of the reset buffer. -/
theorem Block.reset_packWord_buf (w : Nat) : packWord Block.reset.buf.toList w = 0x00000000 := by
  have hzero (i : Nat) : Block.reset.buf.toList.getD i 0 = 0 := by
    rw [Block.getD_buf]
    simp [Block.reset]
  rw [packWord_eq_of_getD_eq (y := fun _ => 0) w fun _ _ => hzero _]
  decide

/-- R168: what a read of the word `w` of the buffer returns. -/
theorem Block.packWord_buf_spec (b : Block) (w : Nat) (hw : w < 4) :
    (∀ k < 4, (packWord b.buf.toList w).extractLsb' (8 * k) 8 =
        if h : 4 * w + k < 15 then b.buf[4 * w + k] else 0x00) ∧
      (∀ y : Nat → Byte, (∀ (i : Nat) (h : i < 15), y i = b.buf[i]) → y 15 = 0x00 →
        packWord b.buf.toList w = ((y (4 * w)).setWidth 32 ||| ((y (4 * w + 1)).setWidth 32 <<< 8)
          ||| ((y (4 * w + 2)).setWidth 32 <<< 16) ||| ((y (4 * w + 3)).setWidth 32 <<< 24))) ∧
      (b = State.reset.block → packWord b.buf.toList w = 0x00000000) ∧
      (b.Inv → ∀ k < 4, b.count.toNat ≤ 4 * w + k →
        (packWord b.buf.toList w).extractLsb' (8 * k) 8 = 0x00) := by
  refine ⟨b.extractLsb'_packWord_buf w, fun y hy hlast => packWord_eq_of_getD_eq w fun k hk => ?_,
    fun hreset => hreset ▸ Block.reset_packWord_buf w, fun hb => hb.packWord_buf_rest w⟩
  rw [b.getD_buf]
  split
  · next h => exact (hy _ h).symm
  · next h => rw [show 4 * w + k = 15 by omega, hlast]

/-- Settles O30: the four descriptors, and the bytes of their words. -/
theorem bufWordsPackFourBytesEach : Obligations.BufWordsPackFourBytesEach := by
  intro p hp
  fin_cases hp
  · exact ⟨fun _ => rfl, fun s => ⟨_, rfl, s.block.packWord_buf_spec 0 (by decide)⟩⟩
  · exact ⟨fun _ => rfl, fun s => ⟨_, rfl, s.block.packWord_buf_spec 1 (by decide)⟩⟩
  · exact ⟨fun _ => rfl, fun s => ⟨_, rfl, s.block.packWord_buf_spec 2 (by decide)⟩⟩
  · exact ⟨fun _ => rfl, fun s => ⟨_, rfl, s.block.packWord_buf_spec 3 (by decide)⟩⟩

end Sys2Proof.Machine

/-! One transaction as a step, by its tuple alone (spec/20_memory.md R62, R66, R69): what it does to the
block, what it returns, and what it leaves of the runner. -/

namespace Sys2Proof

/-! ### Which descriptors are performed -/

theorem AccessSize.ofCode_eq_four_iff (c : BitVec 2) : AccessSize.ofCode c = .four ↔ c = 2 := by
  revert c; decide

/-- R92: the code of SZ is the logarithm of the size. -/
theorem AccessSize.bytes_ofCode (c : BitVec 2) : (AccessSize.ofCode c).bytes = 2 ^ c.toNat := by
  revert c; decide

theorem isPerformed_iff (size : AccessSize) (off : BitVec 7) :
    isPerformed size off = true ↔ size = .four ∧ off.toNat % 4 = 0 := by
  simp [isPerformed]

/-- R62, R92: in a descriptor, the size of 4 bytes is the code 2. -/
theorem isPerformed_desc_iff (d : BitVec 10) :
    isPerformed (descSize d) (descOff d) = true ↔ d.extractLsb' 8 2 = 2 ∧ (descOff d).toNat % 4 = 0 := by
  rw [isPerformed_iff, descSize, AccessSize.ofCode_eq_four_iff]

theorem toNat_lowBits (off : BitVec 7) : (off.extractLsb' 0 2).toNat = off.toNat % 4 := by
  simp [BitVec.extractLsb'_toNat]

/-! ### The row of a performed descriptor -/

theorem decodeBus_read {d : BitVec 10} (hperf : isPerformed (descSize d) (descOff d) = true)
    (hdir : descDir d = .read) (v : Word) : decodeBus d v = readRow ((descOff d).extractLsb' 2 5) := by
  obtain ⟨hsize, halign⟩ := (isPerformed_iff _ _).mp hperf
  simp [decodeBus, hsize, halign, hdir]

theorem decodeBus_write {d : BitVec 10} (hperf : isPerformed (descSize d) (descOff d) = true)
    (hdir : descDir d = .write) (v : Word) :
    decodeBus d v = writeRow ((descOff d).extractLsb' 2 5) v := by
  obtain ⟨hsize, halign⟩ := (isPerformed_iff _ _).mp hperf
  simp [decodeBus, hsize, halign, hdir]

end Sys2Proof

namespace Sys2Proof.Machine

/-! ### The rows of the bus as reads and writes of registers -/

/-- R30: each of the 32 read rows reads the register at its slot. -/
theorem exec_readRow (slot : BitVec 5) (s : State) :
    exec (readRow slot) s = performRead (registerAt slot) s := by
  obtain ⟨n⟩ := slot
  fin_cases n <;> rfl

/-- R30: each of the 32 write rows writes the register at its slot. -/
theorem exec_writeRow (slot : BitVec 5) (v : Word) (s : State) :
    exec (writeRow slot v) s = performWrite (registerAt slot) v s := by
  obtain ⟨n⟩ := slot
  fin_cases n <;> rfl

/-- R176: a descriptor that is not performed selects one of the six BusError rows. -/
theorem exec_decodeBus_of_not_performed {d : BitVec 10}
    (hperf : isPerformed (descSize d) (descOff d) = false) (v : Word) (s : State) :
    exec (decodeBus d v) s = .next (s.raiseBusError (descOff d) (descSize d) (descDir d)) := by
  unfold decodeBus
  cases hsize : descSize d with
  | one | two | eight => rfl
  | four =>
    have hmisaligned : ((descOff d).extractLsb' 0 2).toNat ≠ 0 := by
      simpa [isPerformed, hsize, toNat_lowBits] using hperf
    obtain hlow | hlow | hlow : ((descOff d).extractLsb' 0 2).toNat = 1 ∨
        ((descOff d).extractLsb' 0 2).toNat = 2 ∨ ((descOff d).extractLsb' 0 2).toNat = 3 := by omega
    all_goals
      simp only [hlow]
      rfl

/-- A command does its effect on the block and completes. -/
theorem exec_toInstr (c : Command) (s : State) :
    exec c.toInstr s = .next (s.finish none (s.block.runCommand c)) := by
  cases c <;> rfl

/-! ### The effect of a transaction -/

/-- What a transaction returns to the host, by its tuple alone: the value of the register for a performed
read, nothing otherwise (R62, R84). The companion of `Block.transact`. -/
def Block.respond (b : Block) (t : Transaction) : Option Word :=
  if isPerformed t.size t.off then
    match t.dir with
    | .read => some (b.readRegister (registerAt (t.off.extractLsb' 2 5)))
    | .write => none
  else none

/-- The state after the transaction `t`; `step_eq_issue` says that it is the model's. -/
def State.issue (s : State) (t : Transaction) : State :=
  { s with
    block := s.block.transact t
    response := s.block.respond t
    index := s.index + 1
    mark :=
      if isPerformed t.size t.off then s.mark else some { off := t.off, size := t.size, dir := t.dir } }

@[simp] theorem State.issue_block (s : State) (t : Transaction) :
    (s.issue t).block = s.block.transact t := rfl
@[simp] theorem State.issue_program (s : State) (t : Transaction) :
    (s.issue t).program = s.program := rfl
@[simp] theorem State.issue_index (s : State) (t : Transaction) :
    (s.issue t).index = s.index + 1 := rfl
@[simp] theorem State.issue_resets (s : State) (t : Transaction) :
    (s.issue t).resets = s.resets := rfl
@[simp] theorem State.issue_response (s : State) (t : Transaction) :
    (s.issue t).response = s.block.respond t := rfl

theorem State.issue_mark_of_performed (s : State) {t : Transaction}
    (hperf : isPerformed t.size t.off = true) : (s.issue t).mark = s.mark := by
  simp [State.issue, hperf]

/-- R66: a read, performed or not, leaves the block as it is. -/
theorem Block.transact_read (b : Block) {t : Transaction} (hdir : t.dir = .read) : b.transact t = b := by
  simp [Block.transact, hdir]

theorem Block.transact_write (b : Block) {t : Transaction} (hperf : isPerformed t.size t.off = true)
    (hdir : t.dir = .write) :
    b.transact t = b.writeRegister (registerAt (t.off.extractLsb' 2 5)) t.wdata := by
  simp [Block.transact, hperf, hdir]

theorem Block.respond_read (b : Block) {t : Transaction} (hperf : isPerformed t.size t.off = true)
    (hdir : t.dir = .read) :
    b.respond t = some (b.readRegister (registerAt (t.off.extractLsb' 2 5))) := by
  simp [Block.respond, hperf, hdir]

theorem Block.respond_write (b : Block) {t : Transaction} (hdir : t.dir = .write) :
    b.respond t = none := by
  simp [Block.respond, hdir]

/-- R84: the write value plays no part in what is returned. -/
theorem Block.respond_bus (b : Block) (d : BitVec 10) (v v' : Word) :
    b.respond (Entry.bus d v).transaction = b.respond (Entry.bus d v').transaction := rfl

theorem State.issue_of_read (s : State) {t : Transaction} (hperf : isPerformed t.size t.off = true)
    (hdir : t.dir = .read) :
    .next (s.issue t) = performRead (registerAt (t.off.extractLsb' 2 5)) s := by
  simp [State.issue, performRead, State.finish, hperf, s.block.transact_read hdir,
    s.block.respond_read hperf hdir]

theorem State.issue_of_write (s : State) {t : Transaction} (hperf : isPerformed t.size t.off = true)
    (hdir : t.dir = .write) :
    .next (s.issue t) = performWrite (registerAt (t.off.extractLsb' 2 5)) t.wdata s := by
  simp [State.issue, performWrite, State.finish, hperf, s.block.transact_write hperf hdir,
    s.block.respond_write hdir]

theorem State.issue_of_not_performed (s : State) {t : Transaction}
    (hperf : isPerformed t.size t.off = false) : s.issue t = s.raiseBusError t.off t.size t.dir := by
  simp [State.issue, State.raiseBusError, Block.transact, Block.respond, hperf]

/-! ### A step is its transaction -/

/-- R62, R92: a descriptor does what its tuple says, whichever row it selects. -/
theorem exec_decodeBus (d : BitVec 10) (v : Word) (s : State) :
    exec (decodeBus d v) s = .next (s.issue (Entry.bus d v).transaction) := by
  cases hperf : isPerformed (descSize d) (descOff d) with
  | false => rw [exec_decodeBus_of_not_performed hperf, s.issue_of_not_performed hperf]; rfl
  | true =>
    cases hdir : descDir d with
    | read => rw [decodeBus_read hperf hdir, exec_readRow, s.issue_of_read hperf hdir]; rfl
    | write => rw [decodeBus_write hperf hdir, exec_writeRow, s.issue_of_write hperf hdir]; rfl

/-- R84, R161: a command word on its own is the 4-byte write of it to CMD. -/
theorem State.issue_command (s : State) (w : Word) :
    .next (s.issue (Entry.command w).transaction) = performWrite .cmd w s := by
  have hperf : isPerformed .four 0x00 = true := by decide
  have hcmd : registerAt ((0x00 : BitVec 7).extractLsb' 2 5) = .cmd := by decide
  rw [s.issue_of_write (t := (Entry.command w).transaction) hperf rfl, Entry.transaction, hcmd]

/-- R69: the step on a transaction, whichever form its entry has, is given by its tuple. -/
theorem step_eq_issue {s : State} {e : Entry} (hnext : s.nextIs e) :
    step s = .next (s.issue e.transaction) := by
  rw [step_of_nextIs hnext]
  cases e with
  | bus d v => exact exec_decodeBus d v s
  | command w =>
    rw [s.issue_command, performWrite, Block.writeRegister, decode]
    rcases s.block.writeCmd_cases w with ⟨c, hc, he⟩ | ⟨r, hr, he⟩ <;> rw [he]
    · rw [hc]
      exact exec_toInstr c s
    · rw [hr]
      rfl

/-- Settles O39: `step_eq_issue`, for the two values of `isPerformed`. -/
theorem nonPerformedTransactionsAreBusErrors : Obligations.NonPerformedTransactionsAreBusErrors := by
  intro s d v hnext
  have hstep := step_eq_issue hnext
  refine ⟨fun hbad => ⟨descSize d, AccessSize.bytes_ofCode _, ?_⟩, fun hsize halign => ?_⟩
  · have hperf : isPerformed (descSize d) (descOff d) = false :=
      Bool.eq_false_iff.mpr fun h => by
        obtain ⟨hsize, halign⟩ := (isPerformed_desc_iff d).mp h
        exact hbad.elim (absurd hsize) (absurd halign)
    rw [hstep, s.issue_of_not_performed hperf]
    rfl
  · have hperf := (isPerformed_desc_iff d).mpr ⟨hsize, halign⟩
    obtain ⟨hmark, _, _⟩ := hnext
    exact ⟨_, hstep, (s.issue_mark_of_performed hperf).trans hmark, rfl⟩

/-! ### Runs -/

theorem run_succ_of_step (M : Host.Core) {s t : M.State} (k : Nat) (h : M.step s = .next t) :
    M.run (k + 1) s = M.run k t := by
  rw [Host.Core.run, h]

/-- A run goes on from where its first `j` steps end. -/
theorem run_add (M : Host.Core) {s t : M.State} (j k : Nat) (h : M.run j s = .next t) :
    M.run (j + k) s = M.run k t := by
  induction j generalizing s with
  | zero => cases h; rw [Nat.zero_add]
  | succ j ih =>
    cases hstep : M.step s with
    | next u =>
      rw [run_succ_of_step M j hstep] at h
      rw [Nat.add_right_comm, run_succ_of_step M (j + k) hstep, ih h]
    | fault f => simp [Host.Core.run, hstep] at h
    | refused r => simp [Host.Core.run, hstep] at h

/-- With no reset event to come, the next event of an unmarked run is the entry at its index. -/
theorem State.nextIs_of_resets_nil {s : State} {e : Entry} (hmark : s.mark = none)
    (hresets : s.resets = []) (he : s.program[s.index]? = some e) : s.nextIs e :=
  ⟨hmark, by simp [State.resetDue, hresets], he⟩

/-- Settles O44, by induction on the number of transactions. -/
theorem runIsTheFoldOfItsTransactions : Obligations.RunIsTheFoldOfItsTransactions := by
  intro s k hmark hresets hlen hperf
  induction k generalizing s with
  | zero => exact ⟨s, rfl, rfl, rfl, rfl, hmark, hresets⟩
  | succ k ih =>
    have hlt : s.index < s.program.length := by omega
    have hnext := State.nextIs_of_resets_nil hmark hresets (List.getElem?_eq_getElem hlt)
    rw [List.drop_eq_getElem_cons hlt, List.take_succ_cons] at hperf ⊢
    obtain ⟨hhead, htail⟩ := List.forall_mem_cons.mp hperf
    obtain ⟨t, hrun, hblock, hindex, hprogram, hmark', hresets'⟩ :=
      ih (s.issue s.program[s.index].transaction) ((s.issue_mark_of_performed hhead).trans hmark) hresets
        (by rw [State.issue_index, State.issue_program]; omega) htail
    exact ⟨t, (run_succ_of_step Sys2Proof.core k (step_eq_issue hnext)).trans hrun, hblock,
      by rw [hindex, State.issue_index]; omega, hprogram, hmark', hresets'⟩

/-- R66: reads in any number leave the block as it is. -/
theorem Block.foldl_transact_reads (b : Block) {l : List Transaction} (h : ∀ t ∈ l, t.dir = .read) :
    l.foldl Block.transact b = b := by
  induction l with
  | nil => rfl
  | cons t l ih =>
    obtain ⟨ht, hl⟩ := List.forall_mem_cons.mp h
    rw [List.foldl_cons, b.transact_read ht, ih hl]

/-- The reads of a run leave the block as it is, and the run where its list goes on. -/
theorem run_reads {s : State} {k : Nat} (hmark : s.mark = none) (hresets : s.resets = [])
    (hlen : s.index + k ≤ s.program.length)
    (hreads : ∀ e ∈ (s.program.drop s.index).take k,
      e.transaction.dir = .read ∧ isPerformed e.transaction.size e.transaction.off = true) :
    ∃ t : State, Sys2Proof.core.run k s = .next t ∧ t.block = s.block ∧ t.index = s.index + k ∧
      t.program = s.program ∧ t.mark = none ∧ t.resets = [] := by
  obtain ⟨t, hrun, hblock, hrunner⟩ :=
    runIsTheFoldOfItsTransactions s k hmark hresets hlen fun e he => (hreads e he).2
  refine ⟨t, hrun, hblock.trans (s.block.foldl_transact_reads ?_), hrunner⟩
  exact List.forall_mem_map.mpr fun e he => (hreads e he).1

/-- Settles O45: `step_eq_issue` for one read and for two states with one block, and `run_reads` for the
reads between the two. -/
theorem readsHaveNoSideEffects : Obligations.ReadsHaveNoSideEffects := by
  refine ⟨fun s d v hnext hdir => ⟨_, step_eq_issue hnext, s.block.transact_read hdir⟩,
    fun s s' d v v' _ hnext hnext' hblock =>
      ⟨_, _, step_eq_issue hnext, step_eq_issue hnext', by simp [hblock, s'.block.respond_bus d v v']⟩, ?_⟩
  intro s k d v v' hmark hresets hdir hperf hfirst hlast hbetween
  have hstep := step_eq_issue (State.nextIs_of_resets_nil hmark hresets hfirst)
  have hsame : (s.issue (Entry.bus d v).transaction).block = s.block := s.block.transact_read hdir
  have hlen := (List.getElem?_eq_some_iff.mp hlast).1
  obtain ⟨w, hruns, hblock, hindex, hprogram, hmark', hresets'⟩ :=
    run_reads (s := s.issue (Entry.bus d v).transaction)
      ((s.issue_mark_of_performed hperf).trans hmark) hresets (Nat.le_of_lt hlen) hbetween
  have hstep' : step w = .next (w.issue (Entry.bus d v').transaction) :=
    step_eq_issue (State.nextIs_of_resets_nil hmark' hresets' (by rw [hprogram, hindex]; exact hlast))
  have hback : w.block = s.block := hblock.trans hsame
  refine ⟨_, w.issue (Entry.bus d v').transaction, _, run_succ_of_step Sys2Proof.core 0 hstep, ?_,
    s.block.respond_read hperf hdir, ?_, hsame, (w.block.transact_read hdir).trans hback⟩
  · calc Sys2Proof.core.run (k + 2) s
        = Sys2Proof.core.run (k + 1) (s.issue (Entry.bus d v).transaction) :=
          run_succ_of_step Sys2Proof.core (k + 1) hstep
      _ = Sys2Proof.core.run 1 w := run_add Sys2Proof.core k 1 hruns
      _ = .next (w.issue (Entry.bus d v').transaction) := run_succ_of_step Sys2Proof.core 0 hstep'
  · rw [State.issue_response, hback]
    exact s.block.respond_read hperf hdir

end Sys2Proof.Machine

/-! The encoding (spec/30_encoding.md R86, R87, R88, R92): command words by their fields, the rows they
match, and the descriptors of the bus. Decoding and encoding are each other's inverse. -/

namespace Sys2Proof

/-! ### A command word and its fields -/

/-- Equal fields are equal bits. -/
theorem getLsbD_eq_of_extractLsb'_eq {w v : Word} {k n i : Nat}
    (h : w.extractLsb' k n = v.extractLsb' k n) (hk : k ≤ i) (hi : i < k + n) :
    w.getLsbD i = v.getLsbD i := by
  have hbit := congrArg (fun x => x.getLsbD (i - k)) h
  have hlt : i - k < n := by omega
  simpa [BitVec.getLsbD_extractLsb', hlt, Nat.add_sub_cancel' hk] using hbit

theorem getLsbD_four_eq_iff (w v : Word) : w.getLsbD 4 = v.getLsbD 4 ↔ fieldSrc w = fieldSrc v := by
  unfold fieldSrc
  cases w.getLsbD 4 <;> cases v.getLsbD 4 <;> decide

/-- R86: the six fields cover the word. -/
theorem word_eq_iff_fields (w v : Word) :
    w = v ↔ fieldOp w = fieldOp v ∧ fieldSrc w = fieldSrc v ∧ fieldRsv0 w = fieldRsv0 v ∧
      fieldA w = fieldA v ∧ fieldLen w = fieldLen v ∧ fieldRsv1 w = fieldRsv1 v := by
  refine ⟨fun h => by simp [h], fun ⟨hop, hsrc, hrsv0, ha, hlen, hrsv1⟩ => ?_⟩
  refine BitVec.eq_of_getLsbD_eq fun i hi => ?_
  obtain hi | rfl | hi | hi | hi | hi : i < 4 ∨ i = 4 ∨ (5 ≤ i ∧ i < 8) ∨ (8 ≤ i ∧ i < 16) ∨
      (16 ≤ i ∧ i < 24) ∨ (24 ≤ i ∧ i < 32) := by omega
  · exact getLsbD_eq_of_extractLsb'_eq hop (Nat.zero_le i) hi
  · exact (getLsbD_four_eq_iff w v).mpr hsrc
  · exact getLsbD_eq_of_extractLsb'_eq hrsv0 hi.1 hi.2
  · exact getLsbD_eq_of_extractLsb'_eq ha hi.1 hi.2
  · exact getLsbD_eq_of_extractLsb'_eq hlen hi.1 hi.2
  · exact getLsbD_eq_of_extractLsb'_eq hrsv1 hi.1 hi.2

/-- R86: the word with the given operands and with both reserved fields zero. -/
def commandWord (op : BitVec 4) (src : CrcSource) (a len : Byte) : Word :=
  op.setWidth 32 ||| (src.code.setWidth 32 <<< 4) ||| (a.setWidth 32 <<< 8) ||| (len.setWidth 32 <<< 16)

section
variable (op : BitVec 4) (src : CrcSource) (a len : Byte)

theorem getLsbD_commandWord (i : Nat) : (commandWord op src a len).getLsbD i =
    if i < 4 then op.getLsbD i else if i < 5 then src.code.getLsbD (i - 4) else if i < 8 then false
    else if i < 16 then a.getLsbD (i - 8) else if i < 24 then len.getLsbD (i - 16) else false := by
  simp only [commandWord, BitVec.getLsbD_or, BitVec.getLsbD_shiftLeft, BitVec.getLsbD_setWidth]
  grind

@[simp] theorem fieldOp_commandWord : fieldOp (commandWord op src a len) = op := by
  ext i hi
  rw [fieldOp, BitVec.getElem_extractLsb', getLsbD_commandWord]
  grind

@[simp] theorem fieldSrc_commandWord : fieldSrc (commandWord op src a len) = src := by
  rw [fieldSrc, getLsbD_commandWord]
  cases src <;> rfl

@[simp] theorem fieldRsv0_commandWord : fieldRsv0 (commandWord op src a len) = 0 := by
  ext i hi
  rw [fieldRsv0, BitVec.getElem_extractLsb', getLsbD_commandWord]
  grind

@[simp] theorem fieldA_commandWord : fieldA (commandWord op src a len) = a := by
  ext i hi
  rw [fieldA, BitVec.getElem_extractLsb', getLsbD_commandWord]
  grind

@[simp] theorem fieldLen_commandWord : fieldLen (commandWord op src a len) = len := by
  ext i hi
  rw [fieldLen, BitVec.getElem_extractLsb', getLsbD_commandWord]
  grind

@[simp] theorem fieldRsv1_commandWord : fieldRsv1 (commandWord op src a len) = 0 := by
  ext i hi
  rw [fieldRsv1, BitVec.getElem_extractLsb', getLsbD_commandWord]
  grind

end

/-- R86: the words with both reserved fields zero, from their other four. -/
theorem eq_commandWord_iff (w : Word) (op : BitVec 4) (src : CrcSource) (a len : Byte) :
    w = commandWord op src a len ↔ fieldOp w = op ∧ fieldSrc w = src ∧ fieldRsv0 w = 0 ∧
      fieldA w = a ∧ fieldLen w = len ∧ fieldRsv1 w = 0 := by
  simp [word_eq_iff_fields w]

/-- The command words of the seven commands. -/
theorem encodeCommand_eq_commandWord (c : Command) : encodeCommand c =
    match c with
    | .nop => commandWord 0 .buf 0 0
    | .crcInit => commandWord 1 .buf 0 0
    | .crcByte a => commandWord 2 .buf a 0
    | .crcRange src a len => commandWord 3 src a len
    | .bufClear => commandWord 4 .buf 0 0
    | .bufPush a => commandWord 5 .buf a 0
    | .parse => commandWord 6 .buf 0 0 := by
  cases c with
  | nop | crcInit | bufClear | parse => rfl
  | crcByte a | bufPush a => simp [encodeCommand, commandWord, CrcSource.code]
  | crcRange src a len => rfl

/-- The number of a command among the rows of R87, its OP. -/
def Command.op : Command → BitVec 4
  | .nop => 0
  | .crcInit => 1
  | .crcByte _ => 2
  | .crcRange _ _ _ => 3
  | .bufClear => 4
  | .bufPush _ => 5
  | .parse => 6

@[simp] theorem fieldOp_encodeCommand (c : Command) : fieldOp (encodeCommand c) = c.op := by
  rw [encodeCommand_eq_commandWord]
  cases c <;> exact fieldOp_commandWord ..

/-! ### The rows of R87 -/

@[simp] theorem fieldOp_and (w m : Word) : fieldOp (w &&& m) = fieldOp w &&& fieldOp m :=
  BitVec.extractLsb'_and ..
@[simp] theorem fieldSrc_and (w m : Word) :
    fieldSrc (w &&& m) = if m.getLsbD 4 then fieldSrc w else .buf := by
  unfold fieldSrc
  rw [BitVec.getLsbD_and]
  cases w.getLsbD 4 <;> cases m.getLsbD 4 <;> rfl
@[simp] theorem fieldRsv0_and (w m : Word) : fieldRsv0 (w &&& m) = fieldRsv0 w &&& fieldRsv0 m :=
  BitVec.extractLsb'_and ..
@[simp] theorem fieldA_and (w m : Word) : fieldA (w &&& m) = fieldA w &&& fieldA m :=
  BitVec.extractLsb'_and ..
@[simp] theorem fieldLen_and (w m : Word) : fieldLen (w &&& m) = fieldLen w &&& fieldLen m :=
  BitVec.extractLsb'_and ..
@[simp] theorem fieldRsv1_and (w m : Word) : fieldRsv1 (w &&& m) = fieldRsv1 w &&& fieldRsv1 m :=
  BitVec.extractLsb'_and ..

/-- A mask that covers the word leaves no operand. -/
theorem masked_full_iff (w v : Word) : w &&& 0xFFFFFFFF = v ↔ w = v := by
  rw [show (0xFFFFFFFF : Word) = BitVec.allOnes 32 from rfl, BitVec.and_allOnes]

/-- The mask of CRC_BYTE and BUF_PUSH leaves out the operand A. -/
theorem masked_byte_iff (w : Word) (op : BitVec 4) :
    w &&& 0xFFFF00FF = commandWord op .buf 0 0 ↔ w = commandWord op .buf (fieldA w) 0 := by
  have hop : fieldOp w &&& fieldOp 0xFFFF00FF#32 = fieldOp w := BitVec.and_allOnes
  have hrsv0 : fieldRsv0 w &&& fieldRsv0 0xFFFF00FF#32 = fieldRsv0 w := BitVec.and_allOnes
  have ha : fieldA w &&& fieldA 0xFFFF00FF#32 = 0#8 := BitVec.and_zero
  have hlen : fieldLen w &&& fieldLen 0xFFFF00FF#32 = fieldLen w := BitVec.and_allOnes
  have hrsv1 : fieldRsv1 w &&& fieldRsv1 0xFFFF00FF#32 = fieldRsv1 w := BitVec.and_allOnes
  simp [eq_commandWord_iff, hop, hrsv0, ha, hlen, hrsv1]

/-- The mask of CRC_RANGE leaves out its three operands. -/
theorem masked_range_iff (w : Word) (op : BitVec 4) :
    w &&& 0xFF0000EF = commandWord op .buf 0 0 ↔
      w = commandWord op (fieldSrc w) (fieldA w) (fieldLen w) := by
  have hop : fieldOp w &&& fieldOp 0xFF0000EF#32 = fieldOp w := BitVec.and_allOnes
  have hrsv0 : fieldRsv0 w &&& fieldRsv0 0xFF0000EF#32 = fieldRsv0 w := BitVec.and_allOnes
  have ha : fieldA w &&& fieldA 0xFF0000EF#32 = 0#8 := BitVec.and_zero
  have hlen : fieldLen w &&& fieldLen 0xFF0000EF#32 = 0#8 := BitVec.and_zero
  have hrsv1 : fieldRsv1 w &&& fieldRsv1 0xFF0000EF#32 = fieldRsv1 w := BitVec.and_allOnes
  simp [eq_commandWord_iff, hop, hrsv0, ha, hlen, hrsv1]

/-- The match, the mask and the command of the seven rows of R87, the operands read from `w`. -/
def commandRows (w : Word) : List (Word × Word × Command) :=
  [(0x00000000, 0xFFFFFFFF, .nop), (0x00000001, 0xFFFFFFFF, .crcInit),
   (0x00000002, 0xFFFF00FF, .crcByte (fieldA w)),
   (0x00000003, 0xFF0000EF, .crcRange (fieldSrc w) (fieldA w) (fieldLen w)),
   (0x00000004, 0xFFFFFFFF, .bufClear), (0x00000005, 0xFFFF00FF, .bufPush (fieldA w)),
   (0x00000006, 0xFFFFFFFF, .parse)]

/-- R87: a word matches a row exactly when it is the row's command with the word's own operands. -/
theorem matches_row_iff {w : Word} {p : Word × Word × Command} (hp : p ∈ commandRows w) :
    w &&& p.2.1 = p.1 ↔ w = encodeCommand p.2.2 := by
  simp only [commandRows, List.mem_cons, List.not_mem_nil, or_false] at hp
  rcases hp with rfl | rfl | rfl | rfl | rfl | rfl | rfl
  · exact masked_full_iff w _
  · exact masked_full_iff w _
  · rw [encodeCommand_eq_commandWord]; exact masked_byte_iff w 2
  · rw [encodeCommand_eq_commandWord]; exact masked_range_iff w 3
  · exact masked_full_iff w _
  · rw [encodeCommand_eq_commandWord]; exact masked_byte_iff w 5
  · exact masked_full_iff w _

/-- A command stands in a row of its own word. -/
theorem mem_commandRows_encodeCommand (c : Command) :
    ∃ p ∈ commandRows (encodeCommand c), p.2.2 = c := by
  rw [encodeCommand_eq_commandWord]
  cases c <;> simp [commandRows]

/-- The rows differ in OP. -/
theorem commandRows_op_nodup (w : Word) : ((commandRows w).map fun p => p.2.2.op).Nodup :=
  (by decide : ([0, 1, 2, 3, 4, 5, 6] : List (BitVec 4)).Nodup)

theorem op_of_matches_row {w : Word} {p : Word × Word × Command} (hp : p ∈ commandRows w)
    (h : w &&& p.2.1 = p.1) : fieldOp w = p.2.2.op := by
  rw [(matches_row_iff hp).mp h, fieldOp_encodeCommand]

/-- R87: at most one row matches. -/
theorem commandRows_exclusive (w : Word) :
    (commandRows w).Pairwise fun p q => ¬(w &&& p.2.1 = p.1 ∧ w &&& q.2.1 = q.1) := by
  refine (List.pairwise_map.mp (commandRows_op_nodup w)).imp_of_mem ?_
  rintro p q hp hq hne ⟨hpw, hqw⟩
  exact hne ((op_of_matches_row hp hpw).symm.trans (op_of_matches_row hq hqw))

/-- R88: the decoder takes the first row that the word matches. -/
theorem decodeCommand_eq_find? (w : Word) : decodeCommand w =
    match (commandRows w).find? (fun p => w &&& p.2.1 = p.1) with
    | some p => .ok p.2.2
    | none => .error (illegalReason w) := by
  simp only [commandRows, List.find?_cons, decodeCommand]
  grind

theorem decodeCommand_of_matches_row {w : Word} {p : Word × Word × Command} (hp : p ∈ commandRows w)
    (h : w &&& p.2.1 = p.1) : decodeCommand w = .ok p.2.2 := by
  rw [decodeCommand_eq_find?]
  cases hfind : (commandRows w).find? (fun p => w &&& p.2.1 = p.1) with
  | none => exact absurd h (by simpa using List.find?_eq_none.mp hfind p hp)
  | some q =>
    have hq := List.mem_of_find?_eq_some hfind
    have hqw : w &&& q.2.1 = q.1 := by simpa using List.find?_some hfind
    have hop := (op_of_matches_row hq hqw).symm.trans (op_of_matches_row hp h)
    rw [List.inj_on_of_nodup_map (commandRows_op_nodup w) hq hp hop]

/-- R86, R88: the words that select a command are the encodings of that command. -/
theorem decodeCommand_eq_ok_iff (w : Word) (c : Command) :
    decodeCommand w = .ok c ↔ w = encodeCommand c := by
  constructor
  · intro h
    rw [decodeCommand_eq_find?] at h
    split at h
    · rename_i p hfind
      cases h
      exact (matches_row_iff (List.mem_of_find?_eq_some hfind)).mp (by simpa using List.find?_some hfind)
    · cases h
  · rintro rfl
    obtain ⟨p, hp, hc⟩ := mem_commandRows_encodeCommand c
    rw [decodeCommand_of_matches_row hp ((matches_row_iff hp).mpr (by rw [hc])), hc]

theorem decodeCommand_eq_error_iff (w : Word) :
    (∃ r, decodeCommand w = .error r) ↔ ∀ c, w ≠ encodeCommand c := by
  simp only [ne_eq, ← decodeCommand_eq_ok_iff]
  cases decodeCommand w <;> simp

/-- Settles O9: the rows exclude each other, the decoder takes the one that matches, and a word it takes
is the encoding of a command, which stands in a row. -/
theorem commandRowsSelectAtMostOneCommand : Obligations.CommandRowsSelectAtMostOneCommand := by
  refine fun w => ⟨commandRows_exclusive w, fun p hp => decodeCommand_of_matches_row hp, fun hnone => ?_⟩
  refine (decodeCommand_eq_error_iff w).mpr ?_
  rintro c rfl
  obtain ⟨p, hp, hc⟩ := mem_commandRows_encodeCommand c
  exact hnone p hp ((matches_row_iff hp).mpr (by rw [hc]))

/-! ### Descriptors -/

@[simp] theorem AccessSize.code_ofCode (c : BitVec 2) : (AccessSize.ofCode c).code = c := by
  revert c; decide

theorem code_descDir (d : BitVec 10) : (descDir d).code = d.extractLsb' 7 1 := by
  ext i hi
  obtain rfl : i = 0 := by omega
  rw [descDir, BitVec.getElem_extractLsb']
  cases d.getLsbD 7 <;> simp [Dir.code]

/-- R92: the three fields cover the descriptor. -/
@[simp] theorem descriptor_of_fields (d : BitVec 10) :
    descriptor (descSize d) (descDir d) (descOff d) = d := by
  rw [descriptor, descSize, AccessSize.code_ofCode, code_descDir, descOff]
  ext i hi
  simp
  grind

/-- R92: the descriptor of a performed transaction at a slot. -/
def slotDescriptor (dir : Dir) (slot : BitVec 5) : BitVec 10 :=
  descriptor .four dir (slot.setWidth 7 <<< 2)

theorem encode_readRow (slot : BitVec 5) : encode (readRow slot) = .bus (slotDescriptor .read slot) 0 := by
  obtain ⟨n⟩ := slot
  fin_cases n <;> rfl

theorem encode_writeRow (slot : BitVec 5) (v : Word) :
    encode (writeRow slot v) = .bus (slotDescriptor .write slot) v := by
  obtain ⟨n⟩ := slot
  fin_cases n <;> rfl

theorem wellFormed_readRow (slot : BitVec 5) : (readRow slot).wellFormed = true := by
  obtain ⟨n⟩ := slot
  fin_cases n <;> rfl

theorem wellFormed_writeRow (slot : BitVec 5) (v : Word) : (writeRow slot v).wellFormed = true := by
  obtain ⟨n⟩ := slot
  fin_cases n <;> rfl

/-! ### Decoding and encoding -/

theorem encode_toInstr (c : Command) : encode c.toInstr = .command (encodeCommand c) := by
  cases c <;> rfl

theorem wellFormed_toInstr (c : Command) : c.toInstr.wellFormed = true := by
  cases c <;> rfl

theorem decode_encode_toInstr (c : Command) : decode (encode c.toInstr) = .ok c.toInstr := by
  rw [encode_toInstr, decode, (decodeCommand_eq_ok_iff _ c).mpr rfl, Except.map]

/-- Settles O7: a command word by its row, a performed transaction by its slot, a BusError by the fields
of its descriptor. -/
theorem decodeOfEncodeIsTheInstruction : Obligations.DecodeOfEncodeIsTheInstruction := by
  intro i hwf
  cases i with
  | nop => exact decode_encode_toInstr .nop
  | crcInit => exact decode_encode_toInstr .crcInit
  | crcByte a => exact decode_encode_toInstr (.crcByte a)
  | crcRange src a len => exact decode_encode_toInstr (.crcRange src a len)
  | bufClear => exact decode_encode_toInstr .bufClear
  | bufPush a => exact decode_encode_toInstr (.bufPush a)
  | parse => exact decode_encode_toInstr .parse
  | rdCmd | rdStatus | rdCrc | rdCount | rdBuf0 | rdBuf1 | rdBuf2 | rdBuf3 | rdDist | rdMag | rdAmbient
  | rdPrecision | rdFrameCrc | rdRsvd34 | rdRsvd38 | rdRsvd3C | rdCmdframe0 | rdCmdframe1 | rdCmdframe2
  | rdRsvd4C | rdRsvd50 | rdRsvd54 | rdRsvd58 | rdRsvd5C | rdRsvd60 | rdRsvd64 | rdRsvd68 | rdRsvd6C
  | rdRsvd70 | rdRsvd74 | rdRsvd78 | rdRsvd7C =>
    rfl
  | wrCmd | wrStatus | wrCrc | wrCount | wrBuf0 | wrBuf1 | wrBuf2 | wrBuf3 | wrDist | wrMag | wrAmbient
  | wrPrecision | wrFrameCrc | wrRsvd34 | wrRsvd38 | wrRsvd3C | wrCmdframe0 | wrCmdframe1 | wrCmdframe2
  | wrRsvd4C | wrRsvd50 | wrRsvd54 | wrRsvd58 | wrRsvd5C | wrRsvd60 | wrRsvd64 | wrRsvd68 | wrRsvd6C
  | wrRsvd70 | wrRsvd74 | wrRsvd78 | wrRsvd7C =>
    rfl
  | busErr1Byte | busErr2Byte | busErr8Byte =>
    simp [encode, decode, decodeBus]
  | busErrOffLow1 dir off | busErrOffLow2 dir off | busErrOffLow3 dir off =>
    have hlow := eq_of_beq hwf
    simp [encode, decode, decodeBus, hlow]

/-- The offset of a slot, back from an aligned offset. -/
theorem setWidth_slot_shiftLeft {off : BitVec 7} (halign : off.toNat % 4 = 0) :
    (off.extractLsb' 2 5).setWidth 7 <<< 2 = off := by
  revert off; decide

theorem slotDescriptor_of_performed {d : BitVec 10} (hperf : isPerformed (descSize d) (descOff d) = true) :
    slotDescriptor (descDir d) ((descOff d).extractLsb' 2 5) = d := by
  obtain ⟨hsize, halign⟩ := (isPerformed_iff _ _).mp hperf
  rw [slotDescriptor, setWidth_slot_shiftLeft halign, ← hsize, descriptor_of_fields]

theorem decodeBus_not_performed {d : BitVec 10} (hperf : isPerformed (descSize d) (descOff d) = false)
    (v : Word) : (decodeBus d v).wellFormed = true ∧ encode (decodeBus d v) = .bus d 0 := by
  have hd := descriptor_of_fields d
  unfold decodeBus
  cases hsize : descSize d with
  | one | two | eight => exact ⟨rfl, congrArg (Entry.bus · 0) (hsize ▸ hd)⟩
  | four =>
    have hmisaligned : ((descOff d).extractLsb' 0 2).toNat ≠ 0 := by
      simpa [isPerformed, hsize, toNat_lowBits] using hperf
    obtain hlow | hlow | hlow : ((descOff d).extractLsb' 0 2).toNat = 1 ∨
        ((descOff d).extractLsb' 0 2).toNat = 2 ∨ ((descOff d).extractLsb' 0 2).toNat = 3 := by omega
    all_goals
      simp only [hlow]
      exact ⟨beq_of_eq (BitVec.eq_of_toNat_eq hlow), congrArg (Entry.bus · 0) (hsize ▸ hd)⟩

/-- R92: every descriptor is the encoding of the row it selects, with its value if it is a performed
write. -/
theorem encode_decodeBus (d : BitVec 10) (v : Word) : (decodeBus d v).wellFormed = true ∧
    encode (decodeBus d v) =
      .bus d (if isPerformed (descSize d) (descOff d) ∧ descDir d = .write then v else 0) := by
  cases hperf : isPerformed (descSize d) (descOff d) with
  | false => simpa using decodeBus_not_performed hperf v
  | true =>
    have hslot := slotDescriptor_of_performed hperf
    cases hdir : descDir d with
    | read =>
      rw [decodeBus_read hperf hdir, encode_readRow, ← hdir, hslot]
      simpa [hdir] using wellFormed_readRow _
    | write =>
      rw [decodeBus_write hperf hdir, encode_writeRow, ← hdir, hslot]
      simpa [hdir] using wellFormed_writeRow _ v

/-- Settles O8: a command word by `decodeCommand_eq_ok_iff`, a descriptor by `encode_decodeBus`. -/
theorem eachEncodingHasOneMeaning : Obligations.EachEncodingHasOneMeaning := by
  refine ⟨fun w i h => ?_, fun d v => ?_⟩
  · rw [decode] at h
    cases hc : decodeCommand w with
    | error r => simp [hc, Except.map] at h
    | ok c =>
      obtain rfl : c.toInstr = i := by simpa [hc, Except.map] using h
      rw [encode_toInstr, ← (decodeCommand_eq_ok_iff w c).mp hc]
      exact ⟨wellFormed_toInstr c, rfl⟩
  · obtain ⟨hwf, henc⟩ := encode_decodeBus d v
    exact ⟨_, hwf, henc, fun hperf hdir => if_pos ⟨hperf, hdir⟩⟩

end Sys2Proof

/-! What a command word and a transaction do when they are executed (spec/30_encoding.md R84, R88, R90,
spec/42_register_access.md R161). -/

namespace Sys2Proof

/-! ### The illegal words -/

theorem fieldSrc_eq_buf_iff (w : Word) : fieldSrc w = .buf ↔ w.getLsbD 4 = false := by
  unfold fieldSrc
  cases w.getLsbD 4 <;> decide

/-- R90: the legal words, by the fields that each OP uses. -/
theorem exists_encodeCommand_iff (w : Word) : (∃ c, w = encodeCommand c) ↔
    (fieldOp w).toNat < 7 ∧ fieldRsv0 w = 0 ∧ fieldRsv1 w = 0 ∧
      ((fieldOp w).toNat ≠ 3 → fieldSrc w = .buf ∧ fieldLen w = 0) ∧
      ((fieldOp w).toNat ≠ 2 → (fieldOp w).toNat ≠ 3 → (fieldOp w).toNat ≠ 5 → fieldA w = 0) := by
  constructor
  · rintro ⟨c, rfl⟩
    rw [encodeCommand_eq_commandWord]
    cases c <;> simp
  · rintro ⟨hop, hrsv0, hrsv1, hrange, hbyte⟩
    have hw := eq_commandWord_iff w
    simp only [encodeCommand_eq_commandWord]
    obtain h | h | h | h | h | h | h :
        fieldOp w = 0 ∨ fieldOp w = 1 ∨ fieldOp w = 2 ∨ fieldOp w = 3 ∨
        fieldOp w = 4 ∨ fieldOp w = 5 ∨ fieldOp w = 6 := by bv_omega
    · exact ⟨.nop, by simp_all⟩
    · exact ⟨.crcInit, by simp_all⟩
    · exact ⟨.crcByte (fieldA w), by simp_all⟩
    · exact ⟨.crcRange (fieldSrc w) (fieldA w) (fieldLen w), by simp_all⟩
    · exact ⟨.bufClear, by simp_all⟩
    · exact ⟨.bufPush (fieldA w), by simp_all⟩
    · exact ⟨.parse, by simp_all⟩

/-- R90, the conditions under which a word is illegal. -/
theorem decodeCommand_eq_error_iff_fields (w : Word) : (∃ r, decodeCommand w = .error r) ↔
    (fieldOp w).toNat ≥ 7 ∨ fieldRsv0 w ≠ 0 ∨ fieldRsv1 w ≠ 0 ∨
      ((fieldOp w).toNat ≠ 3 ∧ w.getLsbD 4 = true) ∨ ((fieldOp w).toNat ≠ 3 ∧ fieldLen w ≠ 0) ∨
      ((fieldOp w).toNat ≠ 2 ∧ (fieldOp w).toNat ≠ 3 ∧ (fieldOp w).toNat ≠ 5 ∧ fieldA w ≠ 0) := by
  rw [decodeCommand_eq_error_iff, ← not_exists, exists_encodeCommand_iff, fieldSrc_eq_buf_iff]
  grind

end Sys2Proof

namespace Sys2Proof.Machine

/-! ### A write to CMD -/

/-- R88: a word that selects a command does what the command does. -/
theorem exec_wrCmd_of_ok {w : Word} {c : Command} (h : decodeCommand w = .ok c) (s : State) :
    exec (.wrCmd w) s = exec c.toInstr s := by
  have hwrite : s.block.writeCmd w = s.block.runCommand c := by rw [Block.writeCmd, h]
  rw [exec_toInstr, ← hwrite]
  rfl

/-- R88, R90: any other word sets CMD_ERR. -/
theorem exec_wrCmd_of_error {w : Word} {r : DecodeError} (h : decodeCommand w = .error r) (s : State) :
    exec (.wrCmd w) s = .next s.rejectCommand := by
  have hwrite : s.block.writeCmd w = s.block.setCmdErr := by rw [Block.writeCmd, h]
  rw [State.rejectCommand, ← hwrite]
  rfl

/-- Settles O34, by the two cases of R88. -/
theorem writeCmdRunsTheDecodedCommand : Obligations.WriteCmdRunsTheDecodedCommand := by
  refine ⟨fun _ => rfl, fun w c s h => ?_, fun w r s h => exec_wrCmd_of_error h s⟩
  obtain ⟨t, ht, _⟩ := exec_answers_next (.wrCmd w) s
  exact ⟨⟨t, ht⟩, exec_wrCmd_of_ok h s⟩

/-- Settles O5: `step_of_nextIs`, for the two answers of the decoder. -/
theorem stepRunsTheDecodedTransaction : Obligations.StepRunsTheDecodedTransaction := by
  intro s e hnext
  refine ⟨fun i hi => ?_, fun r hr => ?_⟩
  · rw [step_of_nextIs hnext, hi]
  · rw [step_of_nextIs hnext, hr]
    rfl

/-- R84, R161: a command word stands for the same transaction as the bus write of it to CMD. -/
theorem transaction_command_eq_bus (w : Word) :
    (Entry.bus 0x280 w).transaction = (Entry.command w).transaction := rfl

/-- Settles O35: both steps issue the same transaction, on the same block. -/
theorem commandWordAndBusWriteAgree : Obligations.CommandWordAndBusWriteAgree := by
  intro w s s' hnext hnext' hblock hindex
  have hperf : isPerformed (Entry.command w).transaction.size (Entry.command w).transaction.off = true :=
    rfl
  have hstep := step_eq_issue hnext
  have hstep' := step_eq_issue hnext'
  rw [transaction_command_eq_bus] at hstep'
  obtain ⟨hmark, _, _⟩ := hnext
  obtain ⟨hmark', _, _⟩ := hnext'
  exact ⟨_, _, hstep, hstep', by simp [hblock], by simp [hblock], by simp [hindex],
    (s.issue_mark_of_performed hperf).trans hmark, (s'.issue_mark_of_performed hperf).trans hmark'⟩

/-! ### The silent word -/

/-- The register of a byte step takes part in it additively (R110). -/
theorem crcStep_xor_left (c d : Half) (a : Byte) : crcStep (c ^^^ d) a = crcStep c a ^^^ crcStep d 0 := by
  have hinput : c ^^^ d ^^^ (a.setWidth 16 <<< 8) = (c ^^^ (a.setWidth 16 <<< 8)) ^^^ d := by ac_rfl
  have hzero : d ^^^ ((0 : Byte).setWidth 16 <<< 8) = d := by simp
  simp only [crcStep, hinput, hzero, crcShift_xor]

/-- No byte leaves every register value alone. -/
theorem crcStep_ne_id (a : Byte) : ¬ ∀ c, crcStep c a = c := by
  intro h
  have hone : crcStep (0 ^^^ 1) a = crcStep 0 a ^^^ crcStep 1 0 := crcStep_xor_left 0 1 a
  rw [h 0, h (0 ^^^ 1)] at hone
  exact absurd hone (by decide)

/-- An accepted range gives the CRC a value that does not depend on the CRC, and another one sets CMD_ERR. -/
theorem crcRange_ne_id (src : CrcSource) (a len : Byte) : ¬ ∀ b : Block, b.crcRange src a len = b := by
  intro h
  have hcrc (v : Half) : crc16 (range (Block.reset.source src) a.toNat len.toNat) = v := by
    rcases Block.crcRange_cases { Block.reset with crc := v } src a len with ⟨_, he⟩ | ⟨_, he⟩ <;>
      rw [h] at he
    · exact absurd (congrArg Block.cmdErr he) (by simp [Block.reset])
    · exact (congrArg Block.crc he).symm
  exact absurd ((hcrc 0).symm.trans (hcrc 1)) (by decide)

/-- Every command but NOP changes some block. -/
theorem eq_nop_of_runCommand_eq_id {c : Command} (h : ∀ b : Block, b.runCommand c = b) : c = .nop := by
  cases c with
  | nop => rfl
  | crcInit => exact absurd (congrArg Block.crc (h { Block.reset with crc := 0 })) (by decide)
  | crcByte a =>
    exact absurd (fun v => congrArg Block.crc (h { Block.reset with crc := v })) (crcStep_ne_id a)
  | crcRange src a len => exact absurd h (crcRange_ne_id src a len)
  | bufClear => exact absurd (congrArg Block.count (h { Block.reset with count := 1 })) (by decide)
  | bufPush a =>
    exact absurd (congrArg Block.count (h Block.reset)) (by simp [Block.bufPush, Block.reset])
  | parse => exact absurd (congrArg Block.pres (h Block.reset)) (by decide)

/-- R90: a write to CMD that changes no block is that of NOP. -/
theorem eq_zero_of_writeCmd_eq_id {w : Word} (h : ∀ b : Block, b.writeCmd w = b) : w = 0x00000000 := by
  cases hw : decodeCommand w with
  | error r =>
    have hreset : Block.reset.setCmdErr = Block.reset := by simpa [Block.writeCmd, hw] using h Block.reset
    exact absurd (congrArg Block.cmdErr hreset) (by decide)
  | ok c =>
    have hc : c = .nop := eq_nop_of_runCommand_eq_id fun b => by
      have hb := h b
      rwa [Block.writeCmd, hw] at hb
    exact (decodeCommand_eq_ok_iff w .nop).mp (hc ▸ hw)

/-- Settles O10: the fields of an illegal word, its effect, and the words without effect. -/
theorem illegalWordsAreRejectedAndOnlyThose : Obligations.IllegalWordsAreRejectedAndOnlyThose :=
  ⟨decodeCommand_eq_error_iff_fields, fun _ _ h => exec_wrCmd_of_error h, fun _ h =>
    eq_zero_of_writeCmd_eq_id fun b => h { State.reset with block := b } _ rfl⟩

/-- Settles O6, by evaluating the decoder on the twenty entries. -/
theorem writtenOutWordsDecodeAsTheSpecSays : Obligations.WrittenOutWordsDecodeAsTheSpecSays := by
  unfold Obligations.WrittenOutWordsDecodeAsTheSpecSays
  decide

end Sys2Proof.Machine

/-! The assembler's statements as transactions (spec/30_encoding.md R93, R94). -/

namespace Sys2Proof.Machine

/-! ### Numbers that fit their fields -/

theorem imm8?_of_lt {n : Nat} (h : n < 256) : imm8? n = some (BitVec.ofNat 8 n) := if_pos h

theorem imm8?_of_not_lt {n : Nat} (h : ¬n < 256) : imm8? n = none := if_neg h

theorem setWidth_ofNat_byte {n : Nat} (h : n < 256) : (BitVec.ofNat 8 n).setWidth 32 = BitVec.ofNat 32 n :=
  BitVec.setWidth_ofNat_of_le_of_lt (by decide) h

theorem offset?_of_valid {n : Nat} (h : n % 4 = 0 ∧ n < 0x80) :
    (RegRef.offset n).offset? = some (BitVec.ofNat 7 n) := if_pos h

theorem offset?_of_not_valid {n : Nat} (h : ¬(n % 4 = 0 ∧ n < 0x80)) :
    (RegRef.offset n).offset? = none := if_neg h

/-! ### Command statements -/

theorem commandEntry_crcByte {n : Nat} (h : n < 256) : commandEntry (.crcByte (BitVec.ofNat 8 n)) =
    .command (0x00000002#32 ||| (BitVec.ofNat 32 n <<< 8)) := by
  rw [commandEntry, encodeCommand, setWidth_ofNat_byte h]

theorem commandEntry_bufPush {n : Nat} (h : n < 256) : commandEntry (.bufPush (BitVec.ofNat 8 n)) =
    .command (0x00000005#32 ||| (BitVec.ofNat 32 n <<< 8)) := by
  rw [commandEntry, encodeCommand, setWidth_ofNat_byte h]

theorem rangeEntry_eq (src : CrcSource) (start len : Nat) : rangeEntry src start len =
    if start < 256 ∧ len < 256 then
      some [.command (0x00000003#32 ||| (src.code.setWidth 32 <<< 4) ||| (BitVec.ofNat 32 start <<< 8)
        ||| (BitVec.ofNat 32 len <<< 16))]
    else none := by
  unfold rangeEntry
  by_cases hs : start < 256
  · by_cases hl : len < 256
    · simp [imm8?_of_lt, hs, hl, commandEntry, encodeCommand]
    · simp [imm8?_of_lt hs, imm8?_of_not_lt hl, hl]
  · simp [imm8?_of_not_lt hs, hs]

section
variable {c : Byte → Command} {word : Nat → Word}
  (hword : ∀ n < 256, commandEntry (c (BitVec.ofNat 8 n)) = .command (word n))
include hword

/-- R93: a statement with one byte operand. -/
theorem byteStatement_eq (n : Nat) : ((imm8? n).map fun a => [commandEntry (c a)]) =
    if n < 256 then some [.command (word n)] else none := by
  by_cases h : n < 256
  · rw [imm8?_of_lt h, if_pos h, Option.map_some, hword n h]
  · rw [imm8?_of_not_lt h, if_neg h, Option.map_none]

/-- R94: one entry per byte, and none at all when one of the bytes does not fit. -/
theorem byteEntries_eq (bytes : List Nat) : byteEntries c bytes =
    if ∀ n ∈ bytes, n < 256 then some (bytes.map fun n => .command (word n)) else none := by
  induction bytes with
  | nil => simp [byteEntries]
  | cons n ns ih =>
    rw [byteEntries, ih]
    by_cases hn : n < 256
    · by_cases hns : ∀ m ∈ ns, m < 256
      · simp [imm8?_of_lt hn, hword n hn, hn, if_pos hns]
      · simp [hn, if_neg hns]
    · simp [imm8?_of_not_lt hn, hn]

/-- R94, log entry 7: a pseudo-instruction puts the entries of a non-empty byte list into its expansion. -/
theorem atLeastOne_byteEntries (bytes : List Nat) (expand : List Entry → List Entry) :
    atLeastOne bytes ((byteEntries c bytes).map expand) =
      if bytes ≠ [] ∧ ∀ n ∈ bytes, n < 256 then
        some (expand (bytes.map fun n => .command (word n)))
      else none := by
  rw [atLeastOne, byteEntries_eq hword]
  by_cases hne : bytes = []
  · rw [if_pos hne, if_neg fun h => h.1 hne]
  · by_cases hfit : ∀ n ∈ bytes, n < 256
    · rw [if_neg hne, if_pos hfit, if_pos ⟨hne, hfit⟩, Option.map_some]
    · rw [if_neg hne, if_neg hfit, if_neg fun h => hfit h.2, Option.map_none]

end

/-! ### Bus statements -/

/-- R92: as numbers, the fields of a descriptor add up. -/
theorem descriptor_four_ofNat (dir : Dir) {n : Nat} (h : n < 0x80) :
    descriptor .four dir (BitVec.ofNat 7 n) = BitVec.ofNat 10 (0x200 + 0x80 * dir.code.toNat + n) := by
  have hsum : ∀ off : BitVec 7,
      descriptor .four dir off = BitVec.ofNat 10 (0x200 + 0x80 * dir.code.toNat + off.toNat) := by
    cases dir <;> decide
  rw [hsum, BitVec.toNat_ofNat, Nat.mod_eq_of_lt h]

theorem assemble_rd {reg : RegRef} {n : Nat} (hreg : reg.offset? = some (BitVec.ofNat 7 n)) (hn : n < 0x80) :
    assemble (.rd reg) = some [.bus (BitVec.ofNat 10 (0x200 + n)) 0] := by
  rw [assemble, hreg, Option.map_some, descriptor_four_ofNat .read hn]
  rfl

theorem assemble_wr {reg : RegRef} {n : Nat} (hreg : reg.offset? = some (BitVec.ofNat 7 n)) (hn : n < 0x80)
    (v : Nat) : assemble (.wr reg v) =
      if v < 2 ^ 32 then some [.bus (BitVec.ofNat 10 (0x280 + n)) (BitVec.ofNat 32 v)] else none := by
  rw [assemble, hreg, imm32?]
  by_cases hv : v < 2 ^ 32
  · simp only [if_pos hv, descriptor_four_ofNat .write hn]
    rfl
  · simp only [if_neg hv]

theorem assemble_rd_offset (off : Nat) : assemble (.rd (.offset off)) =
    if off % 4 = 0 ∧ off < 0x80 then some [.bus (BitVec.ofNat 10 (0x200 + off)) 0] else none := by
  by_cases h : off % 4 = 0 ∧ off < 0x80
  · rw [if_pos h, assemble_rd (offset?_of_valid h) h.2]
  · rw [if_neg h, assemble, offset?_of_not_valid h, Option.map_none]

theorem assemble_wr_offset (off n : Nat) : assemble (.wr (.offset off) n) =
    if off % 4 = 0 ∧ off < 0x80 ∧ n < 2 ^ 32 then
      some [.bus (BitVec.ofNat 10 (0x280 + off)) (BitVec.ofNat 32 n)]
    else none := by
  by_cases h : off % 4 = 0 ∧ off < 0x80
  · rw [assemble_wr (offset?_of_valid h) h.2]
    simp [h]
  · rw [if_neg (by tauto), assemble, offset?_of_not_valid h]

/-- The sixteen names of R30 with their offsets. -/
def namedOffsets : List (Register × Nat) :=
  [(.cmd, 0x00), (.status, 0x04), (.crc, 0x08), (.count, 0x0C), (.buf0, 0x10), (.buf1, 0x14),
   (.buf2, 0x18), (.buf3, 0x1C), (.dist, 0x20), (.mag, 0x24), (.ambient, 0x28), (.precision, 0x2C),
   (.frameCrc, 0x30), (.cmdframe0, 0x40), (.cmdframe1, 0x44), (.cmdframe2, 0x48)]

theorem offset?_named : ∀ p ∈ namedOffsets,
    (RegRef.named p.1).offset? = some (BitVec.ofNat 7 p.2) ∧ p.2 < 0x80 := by
  decide

theorem assemble_cmd (n : Nat) : assemble (.cmd n) =
    if n < 2 ^ 32 then some [.bus 0x280 (BitVec.ofNat 32 n)] else none := by
  rw [assemble, imm32?]
  by_cases h : n < 2 ^ 32
  · rw [if_pos h, if_pos h]; rfl
  · rw [if_neg h, if_neg h]; rfl

/-! ### Pseudo-instructions -/

theorem assemble_crcBytes (bytes : List Nat) : assemble (.crcBytes bytes) =
    if bytes ≠ [] ∧ ∀ n ∈ bytes, n < 256 then
      some (bytes.map fun n => .command (0x00000002#32 ||| (BitVec.ofNat 32 n <<< 8)))
    else none := by
  rw [assemble, ← Option.map_id' (x := byteEntries _ _)]
  exact atLeastOne_byteEntries (fun _ => commandEntry_crcByte) bytes _

theorem assemble_bufLoad (bytes : List Nat) : assemble (.bufLoad bytes) =
    if bytes ≠ [] ∧ bytes.length ≤ 15 ∧ ∀ n ∈ bytes, n < 256 then
      some (.command 0x00000004 ::
        bytes.map fun n => .command (0x00000005#32 ||| (BitVec.ofNat 32 n <<< 8)))
    else none := by
  rw [assemble, atLeastOne_byteEntries fun _ => commandEntry_bufPush]
  by_cases hlen : bytes.length ≤ 15
  · simp [Config.bufCap, hlen, commandEntry, encodeCommand]
  · simp [Config.bufCap, hlen]

/-- Settles O50: statement by statement, with the named registers by their offsets. -/
theorem assembledStatementsAreTheirTransactions : Obligations.AssembledStatementsAreTheirTransactions := by
  refine ⟨rfl, rfl, byteStatement_eq fun _ => commandEntry_crcByte, rangeEntry_eq .buf,
    rangeEntry_eq .cmdFrame, rfl, byteStatement_eq fun _ => commandEntry_bufPush, rfl,
    assemble_rd_offset, assemble_wr_offset, fun p hp => ?_, assemble_cmd, assemble_crcBytes,
    fun bytes => atLeastOne_byteEntries (fun _ => commandEntry_crcByte) bytes _, assemble_bufLoad, rfl, rfl⟩
  obtain ⟨hoff, hlt⟩ := offset?_named p hp
  exact ⟨assemble_rd hoff hlt, assemble_wr hoff hlt⟩

end Sys2Proof.Machine

/-! The CRC (spec/40_crc.md): what a byte step does to the register, the properties of R113 and R114 that
follow from it, and the three commands on the accumulator (R115 to R117). -/

namespace Sys2Proof.Machine

/-! ### One round -/

/-- A round only shifts while bit 15 is clear. -/
theorem crcShift_of_top_eq_false {c : Half} (h : c.getLsbD 15 = false) : crcShift c = c <<< 1 := by
  rw [crcShift, h]
  rfl

/-- A round loses nothing: when bit 15 goes out, the polynomial puts a 1 into bit 0. -/
theorem eq_zero_of_crcShift_eq_zero {c : Half} (h : crcShift c = 0#16) : c = 0#16 := by
  cases htop : c.getLsbD 15 with
  | true =>
    have hbit : (crcShift c).getLsbD 0 = true := by simp [crcShift, htop, Config.crcPoly]
    simp [h] at hbit
  | false =>
    rw [crcShift_of_top_eq_false htop] at h
    refine BitVec.eq_of_getLsbD_eq fun i hi => ?_
    obtain rfl | hlt : i = 15 ∨ i < 15 := by omega
    · exact htop
    · have hbit := congrArg (fun x : Half => x.getLsbD (i + 1)) h
      simpa [show i + 1 < 16 by omega, BitVec.getLsbD_eq_getElem hi] using hbit

theorem crcShift_injective : Function.Injective crcShift := by
  intro c d h
  refine BitVec.xor_eq_zero_iff.mp (eq_zero_of_crcShift_eq_zero ?_)
  rw [crcShift_xor, h, BitVec.xor_self]

theorem crcShift_iterate_xor (n : Nat) (c d : Half) :
    crcShift^[n] (c ^^^ d) = crcShift^[n] c ^^^ crcShift^[n] d := by
  induction n generalizing c d with
  | zero => rfl
  | succ n ih => simp only [Function.iterate_succ_apply, crcShift_xor, ih]

/-- `n` rounds only shift while the upper `n` bits are clear. -/
theorem crcShift_iterate_of_top_eq_false {n : Nat} {c : Half}
    (h : ∀ i, i < 16 → 16 ≤ i + n → c.getLsbD i = false) : crcShift^[n] c = c <<< n := by
  induction n generalizing c with
  | zero => simp
  | succ n ih =>
    have htop : c.getLsbD 15 = false := h 15 (by omega) (by omega)
    have hrest : ∀ i, i < 16 → 16 ≤ i + n → (c <<< 1).getLsbD i = false := fun i hi hn => by
      simp [BitVec.getLsbD_shiftLeft, h (i - 1) (by omega) (by omega)]
    rw [Function.iterate_succ_apply, crcShift_of_top_eq_false htop, ih hrest, ← BitVec.shiftLeft_add,
      Nat.add_comm]

/-! ### A register as two bytes -/

theorem u16_zero_zero : u16 0 0 = 0 := rfl

theorem getLsbD_u16 (h l : Byte) (i : Nat) :
    (u16 h l).getLsbD i = if i < 8 then l.getLsbD i else h.getLsbD (i - 8) := by
  simp only [u16, BitVec.getLsbD_or, BitVec.getLsbD_shiftLeft, BitVec.getLsbD_setWidth]
  grind

theorem u16_xor (h h' l l' : Byte) : u16 (h ^^^ h') (l ^^^ l') = u16 h l ^^^ u16 h' l' := by
  refine BitVec.eq_of_getLsbD_eq fun i _ => ?_
  simp only [getLsbD_u16, BitVec.getLsbD_xor]
  split <;> rfl

/-- Every register is its upper byte and its lower byte. -/
theorem u16_bytes (c : Half) : u16 ((c >>> 8).setWidth 8) (c.setWidth 8) = c := by
  refine BitVec.eq_of_getLsbD_eq fun i hi => ?_
  simp only [getLsbD_u16, BitVec.getLsbD_setWidth, BitVec.getLsbD_ushiftRight]
  grind

theorem u16_shiftLeft_eight (h l : Byte) : u16 h l <<< 8 = u16 l 0 := by
  refine BitVec.eq_of_getLsbD_eq fun i hi => ?_
  simp only [getLsbD_u16, BitVec.getLsbD_shiftLeft]
  grind

theorem u16_upper_injective : Function.Injective fun h : Byte => u16 h 0 := by
  refine fun a b hab => BitVec.eq_of_getLsbD_eq fun i _ => ?_
  have hbit := congrArg (fun x : Half => x.getLsbD (i + 8)) hab
  simpa [getLsbD_u16] using hbit

/-! ### The byte step -/

/-- R110: a byte step is eight rounds on the register with the byte added into its upper half. -/
theorem crcStep_eq_iterate (c : Half) (b : Byte) : crcStep c b = crcShift^[8] (c ^^^ u16 b 0) := by
  simp [crcStep, u16]

theorem crcStep_zero_zero : crcStep 0 0 = 0 := by decide

/-- R113 (a). -/
theorem crcStep_xor (c d : Half) (a b : Byte) :
    crcStep (c ^^^ d) (a ^^^ b) = crcStep c a ^^^ crcStep d b := by
  have hinput : c ^^^ d ^^^ u16 (a ^^^ b) 0 = (c ^^^ u16 a 0) ^^^ (d ^^^ u16 b 0) := by
    rw [← BitVec.xor_zero (x := (0 : Byte)), u16_xor]
    ac_rfl
  simp only [crcStep_eq_iterate, hinput, crcShift_iterate_xor]

/-- Two byte steps agree exactly when their rounds start from the same register. -/
theorem crcStep_eq_iff (c d : Half) (a b : Byte) :
    crcStep c a = crcStep d b ↔ c ^^^ u16 a 0 = d ^^^ u16 b 0 := by
  rw [crcStep_eq_iterate, crcStep_eq_iterate, (crcShift_injective.iterate 8).eq_iff]

/-- A byte equal to the register's upper half cancels it, and the lower half moves up. -/
theorem crcStep_u16_self (h l : Byte) : crcStep (u16 h l) h = u16 l 0 := by
  have hinput : u16 h l ^^^ u16 h 0 = u16 0 l := by
    simpa using (u16_xor h h l 0).symm
  have hupper : ∀ i, i < 16 → 16 ≤ i + 8 → (u16 0 l).getLsbD i = false := fun i _ hn => by
    simp [getLsbD_u16, BitVec.getLsbD_of_ge l i (by omega)]
  rw [crcStep_eq_iterate, hinput, crcShift_iterate_of_top_eq_false hupper, u16_shiftLeft_eight]

/-- R114: the part of the register's upper half that the byte does not cancel goes through the table. -/
theorem crcStep_u16 (h l b : Byte) : crcStep (u16 h l) b = u16 l 0 ^^^ crcStep 0 (h ^^^ b) := by
  calc crcStep (u16 h l) b = crcStep (u16 h l ^^^ 0) (h ^^^ (h ^^^ b)) := by simp
    _ = crcStep (u16 h l) h ^^^ crcStep 0 (h ^^^ b) := crcStep_xor ..
    _ = u16 l 0 ^^^ crcStep 0 (h ^^^ b) := by rw [crcStep_u16_self]

theorem crcStep_eq_table (c : Half) (b : Byte) :
    crcStep c b = (c <<< 8) ^^^ crcStep 0 ((c >>> 8).setWidth 8 ^^^ b) := by
  have hstep := crcStep_u16 ((c >>> 8).setWidth 8) (c.setWidth 8) b
  rwa [← u16_shiftLeft_eight ((c >>> 8).setWidth 8), u16_bytes] at hstep

/-- Settles O23, from the additivity of the eight rounds. -/
theorem crcStepIsLinear : Obligations.CrcStepIsLinear :=
  ⟨crcStep_xor, crcStep_zero_zero⟩

/-- Settles O27: `crcStep_eq_table`, of which `crcStepTable` is the right side. -/
theorem tableFormEqualsBitSerialStep : Obligations.TableFormEqualsBitSerialStep :=
  ⟨crcStep_eq_table, fun c b => (crcStep_eq_table c b).symm, by
    simp only [List.forall_mem_cons, List.not_mem_nil, false_implies, implies_true, and_true]
    decide +kernel⟩

/-! ### The CRC of a byte sequence -/

/-- R113 (b): a register fed its own two bytes ends at zero. -/
theorem crcFrom_u16_self (h l : Byte) : crcFrom (u16 h l) [h, l] = 0 := by
  rw [crcFrom_cons, crcStep_u16_self, crcFrom_cons, crcStep_u16_self, crcFrom_nil, u16_zero_zero]

theorem crc16_append_self {d : List Byte} {h l : Byte} (hcrc : u16 h l = crc16 d) :
    crc16 (d ++ [h, l]) = 0 := by
  rw [crc16, crcFrom_append, ← crc16, ← hcrc, crcFrom_u16_self]

/-- R81, R82: behind the first two bytes of a frame come the eleven that its checksum covers, then the
checksum. -/
theorem drop_two_frame (f : Vector Byte 15) :
    f.toList.drop 2 = range f.toList 2 11 ++ [f[13], f[14]] := by
  have hrest : f.toList.drop 13 = [f[13], f[14]] := by
    rw [List.drop_eq_getElem_cons (by simp), List.drop_eq_getElem_cons (by simp),
      List.drop_eq_nil_of_le (by simp)]
    rfl
  rw [← hrest, range, ← List.take_append_drop 11 (f.toList.drop 2), List.drop_drop]
  simp

/-- R113 (d): 0xFF, 0xFF are the bytes of the value that every `crc16` starts from. -/
theorem crc16_ff_ff_append (d : List Byte) : crc16 ([0xFF, 0xFF] ++ d) = crcFrom 0 d := by
  have hinit : u16 0xFF 0xFF = Config.crcInit := by decide
  rw [crc16, crcFrom_append, ← hinit, crcFrom_u16_self]

/-- R113 (c): no sequence makes two registers equal. -/
theorem crcFrom_injective (d : List Byte) : Function.Injective (crcFrom · d) := by
  induction d with
  | nil => exact fun _ _ h => h
  | cons a d ih => exact fun b c h => (BitVec.xor_left_inj _).mp ((crcStep_eq_iff b c a a).mp (ih h))

/-- R113 (c): a changed byte changes the register. -/
theorem crcStep_right_injective (c : Half) : Function.Injective (crcStep c) := fun a b h =>
  u16_upper_injective ((BitVec.xor_right_inj _).mp ((crcStep_eq_iff c c a b).mp h))

/-- Settles O28, by evaluating the CRC on the constant frame. -/
theorem commandFrameChecksum : Obligations.CommandFrameChecksum := by
  unfold Obligations.CommandFrameChecksum
  decide +kernel

/-- Settles O24: `crc16_append_self`, for a frame and for the command frame with their own checksums. -/
theorem crcOfDataAndItsCrcIsZero : Obligations.CrcOfDataAndItsCrcIsZero := by
  obtain ⟨_, hframe, hsum, _⟩ := commandFrameChecksum
  refine ⟨fun d h l => crc16_append_self, fun f ⟨_, hcrc⟩ => ?_, crc16_append_self (hsum.trans hframe.symm)⟩
  rw [drop_two_frame, crc16_append_self hcrc.symm]

/-- Settles O25: the register after the changed byte differs, and the bytes after it keep the difference. -/
theorem crcDetectsEverySingleBitError : Obligations.CrcDetectsEverySingleBitError := by
  intro d e a k hk h
  simp only [crc16, crcFrom_append, crcFrom_cons] at h
  have hbyte : a ^^^ (1#8 <<< k) = a := crcStep_right_injective _ (crcFrom_injective e h)
  have hbit := congrArg (fun x : Byte => x.getLsbD k) hbyte
  simp [hk] at hbit

/-- Settles O26: the two bytes bring the register from 0xFFFF to zero. -/
theorem crcOfFFFFPrefixStartsFromZero : Obligations.CrcOfFFFFPrefixStartsFromZero :=
  ⟨crc16_ff_ff_append [], crc16_ff_ff_append⟩

/-! ### Illegal words of one OP -/

/-- R90: a word is illegal when it is none of the words of its own OP. -/
theorem rejectedWord_of_op {w : Word} (h : ∀ c : Command, c.op = fieldOp w → w ≠ encodeCommand c) :
    rejectedWord w := by
  obtain ⟨r, hr⟩ := (decodeCommand_eq_error_iff w).mpr fun c hc =>
    h c (by rw [hc, fieldOp_encodeCommand]) hc
  exact exec_wrCmd_of_error hr

/-- R90: SRC and LEN are operands of CRC_RANGE alone, and the reserved fields of no command. -/
theorem rejectedWord_of_field_ne {w : Word} (hop : fieldOp w ≠ 3)
    (h : w.getLsbD 4 = true ∨ fieldRsv0 w ≠ 0 ∨ fieldLen w ≠ 0 ∨ fieldRsv1 w ≠ 0) : rejectedWord w := by
  have hop' : (fieldOp w).toNat ≠ 3 := fun he => hop (BitVec.eq_of_toNat_eq he)
  obtain ⟨r, hr⟩ := (decodeCommand_eq_error_iff_fields w).mpr (by tauto)
  exact exec_wrCmd_of_error hr

/-! ### CRC_INIT and CRC_BYTE -/

/-- Settles O12: the only word of OP = 1 is that of CRC_INIT. -/
theorem crcInitPutsFFFFIntoTheAccumulator : Obligations.CrcInitPutsFFFFIntoTheAccumulator := by
  refine ⟨decode_encode_toInstr .crcInit, exec_toInstr .crcInit, fun w hop hne => ?_⟩
  refine rejectedWord_of_op fun c hc => ?_
  have hcop : c.op = 1 := hc.trans hop
  cases c with
  | crcInit => exact hne
  | nop | crcByte | crcRange | bufClear | bufPush | parse => exact absurd hcop (by simp [Command.op])

/-- R116: CRC_BYTEs feed their bytes to the accumulator one after the other. -/
theorem execAll_crcByte (d : List Byte) (s : State) :
    ∃ t, execAll (d.map Instr.crcByte) s = .next t ∧
      t.block = { s.block with crc := crcFrom s.block.crc d } := by
  induction d generalizing s with
  | nil => exact ⟨s, rfl, rfl⟩
  | cons a d ih => exact ih (s.finish none (s.block.crcByte a))

/-- Settles O13: the sequence by induction on its bytes, from the state that CRC_INIT leaves. -/
theorem crcByteFeedsBytesIncrementally : Obligations.CrcByteFeedsBytesIncrementally := by
  refine ⟨fun a => decode_encode_toInstr (.crcByte a), fun a => exec_toInstr (.crcByte a),
    fun w hop => rejectedWord_of_field_ne ?_, fun d s => execAll_crcByte d (s.finish none s.block.crcInit),
    by decide +kernel⟩
  rw [fieldOp, hop]
  decide

/-! ### CRC_RANGE -/

section
variable {src : CrcSource} {a len : Byte} {s : State}

/-- R117: a range inside the valid bytes is computed. -/
theorem exec_crcRange_of_le (h : a.toNat + len.toNat ≤ s.block.sourceLimit src) :
    exec (.crcRange src a len) s = .next (s.finish none
      { s.block with crc := crc16 (range (s.block.source src) a.toNat len.toNat) }) := by
  have heffect : s.block.crcRange src a len =
      { s.block with crc := crc16 (range (s.block.source src) a.toNat len.toNat) } :=
    if_neg (Nat.not_lt.mpr h)
  rw [← heffect]
  exact exec_toInstr (.crcRange src a len) s

theorem crc_of_exec_crcRange {t : State} (h : a.toNat + len.toNat ≤ s.block.sourceLimit src)
    (hexec : exec (.crcRange src a len) s = .next t) :
    t.block.crc = crc16 (range (s.block.source src) a.toNat len.toNat) := by
  cases (exec_crcRange_of_le h).symm.trans hexec
  rfl

/-- R117: any other range is rejected. -/
theorem exec_crcRange_of_lt (h : s.block.sourceLimit src < a.toNat + len.toNat) :
    exec (.crcRange src a len) s = .next s.rejectCommand := by
  have heffect : s.block.crcRange src a len = s.block.setCmdErr := if_pos h
  rw [State.rejectCommand, ← heffect]
  exact exec_toInstr (.crcRange src a len) s

end

theorem exec_crcRange (src : CrcSource) (a len : Byte) (s : State) : exec (.crcRange src a len) s =
    if a.toNat + len.toNat > s.block.sourceLimit src then .next s.rejectCommand
    else .next (s.finish none
      { s.block with crc := crc16 (range (s.block.source src) a.toNat len.toNat) }) := by
  split
  · next h => exact exec_crcRange_of_lt h
  · next h => exact exec_crcRange_of_le (Nat.not_lt.mp h)

/-- R86: the two words of CRC_RANGE, with the bit SRC as a number. -/
theorem decode_crcRange_word (a len : Byte) :
    decode (.command (0x00000003#32 ||| (a.setWidth 32 <<< 8) ||| (len.setWidth 32 <<< 16))) =
        .ok (.crcRange .buf a len) ∧
      decode (.command (0x00000013#32 ||| (a.setWidth 32 <<< 8) ||| (len.setWidth 32 <<< 16))) =
        .ok (.crcRange .cmdFrame a len) :=
  ⟨decode_encode_toInstr (.crcRange .buf a len), decode_encode_toInstr (.crcRange .cmdFrame a len)⟩

/-- Settles O14: `exec_crcRange` for the two sources, and at the two ranges of the frames. -/
theorem crcRangeChecksThenComputes : Obligations.CrcRangeChecksThenComputes := by
  refine ⟨decode_crcRange_word, exec_crcRange .buf, exec_crcRange .cmdFrame,
    fun s t hcount ⟨_, hcrc⟩ h => ?_, fun s t h => ?_⟩
  · have hfull : (2 : Byte).toNat + (11 : Byte).toNat ≤ s.block.sourceLimit .buf := by
      rw [Block.sourceLimit, hcount]
      decide
    exact (crc_of_exec_crcRange hfull h).trans hcrc
  · have hin : (0 : Byte).toNat + (8 : Byte).toNat ≤ s.block.sourceLimit .cmdFrame :=
      (by decide : 0 + 8 ≤ Config.cmdFrameLen)
    obtain ⟨_, hsum, _⟩ := commandFrameChecksum
    exact (crc_of_exec_crcRange hin h).trans hsum

/-- A range below `n` reads no byte at `n` or above. -/
theorem range_eq_of_getElem_eq {x y : Vector Byte 15} {first len n : Nat} (hn : first + len ≤ n)
    (h : ∀ (i : Nat) (hi : i < 15), i < n → x[i] = y[i]) :
    range x.toList first len = range y.toList first len := by
  refine List.ext_getElem (by simp [range]) fun i hx hy => ?_
  simp only [range, List.length_take, List.length_drop, Vector.length_toList] at hx
  simpa [range] using h (first + i) (by omega) (by omega)

/-- Settles O15: both states take the same branch, and compute from the same bytes. -/
theorem crcRangeReadsNoByteBeyondCount : Obligations.CrcRangeReadsNoByteBeyondCount := by
  intro s s' a len hcount herr hbytes
  by_cases hin : a.toNat + len.toNat ≤ s.block.count.toNat
  · have hin' : a.toNat + len.toNat ≤ s'.block.count.toNat := hcount ▸ hin
    refine ⟨_, _, exec_crcRange_of_le hin, exec_crcRange_of_le hin', herr, fun _ => ?_,
      fun hout => absurd hout (Nat.not_lt.mpr hin)⟩
    exact congrArg crc16 (range_eq_of_getElem_eq hin hbytes)
  · have hout : s.block.count.toNat < a.toNat + len.toNat := Nat.not_le.mp hin
    have hout' : s'.block.count.toNat < a.toNat + len.toNat := hcount ▸ hout
    exact ⟨_, _, exec_crcRange_of_lt hout, exec_crcRange_of_lt hout', rfl, fun h => absurd h hin,
      fun _ => ⟨rfl, rfl⟩⟩

end Sys2Proof.Machine

/-! The frame commands (spec/41_frame.md): NOP, BUF_CLEAR and BUF_PUSH by their equations, and PARSE as
a verdict on the buffer and the values that the verdict lets it latch. -/

namespace Sys2Proof.Machine

/-! ### NOP, BUF_CLEAR and BUF_PUSH -/

theorem eq_nop_of_op_eq {c : Command} (h : c.op = 0) : c = .nop := by
  cases c with
  | nop => rfl
  | crcInit | crcByte | crcRange | bufClear | bufPush | parse => exact absurd h (by simp [Command.op])

theorem eq_parse_of_op_eq {c : Command} (h : c.op = 6) : c = .parse := by
  cases c with
  | parse => rfl
  | nop | crcInit | crcByte | crcRange | bufClear | bufPush => exact absurd h (by simp [Command.op])

/-- Settles O11: the only word of OP = 0 is that of NOP. -/
theorem nopChangesNoState : Obligations.NopChangesNoState := by
  refine ⟨decode_encode_toInstr .nop, exec_toInstr .nop, fun w hop hne => ?_⟩
  refine rejectedWord_of_op fun c hc => ?_
  rw [eq_nop_of_op_eq (hc.trans hop)]
  exact hne

/-- R131, R168: a cleared buffer is that of the reset state, and its words read 0. -/
theorem Block.bufClear_packWord_buf (b : Block) (w : Nat) : packWord b.bufClear.buf.toList w = 0x00000000 :=
  Block.reset_packWord_buf w

/-- Settles O16, by the effect of BUF_CLEAR and the four words of the cleared buffer. -/
theorem bufClearZeroesTheBuffer : Obligations.BufClearZeroesTheBuffer := by
  refine ⟨decode_encode_toInstr .bufClear, fun s => ⟨_, exec_toInstr .bufClear s, rfl, ?_⟩⟩
  simp only [List.forall_mem_cons, List.not_mem_nil, false_implies, implies_true, and_true]
  exact ⟨s.block.bufClear_packWord_buf 0, s.block.bufClear_packWord_buf 1,
    s.block.bufClear_packWord_buf 2, s.block.bufClear_packWord_buf 3⟩

/-- R132: a buffer with room takes the byte at index COUNT. -/
theorem Block.bufPush_of_room {b : Block} (a : Byte) (h : b.count.toNat < 15) :
    b.bufPush a = { b with buf := b.buf.set b.count.toNat a, count := b.count + 1 } := dif_pos h

/-- R132: a full buffer drops the byte. -/
theorem Block.bufPush_of_full {b : Block} (a : Byte) (h : b.count.toNat = 15) :
    b.bufPush a = { b with ovf := true } := dif_neg (by omega)

/-- R23: below 15, COUNT does not wrap. -/
theorem toNat_count_succ {n : BitVec 4} (h : n.toNat < 15) : (n + 1).toNat = n.toNat + 1 :=
  BitVec.toNat_add_of_lt (by simpa using Nat.add_lt_add_right h 1)

/-- Settles O17: the two cases of R132, and the fields that BUF_PUSH does not use. -/
theorem bufPushAppendsOrDrops : Obligations.BufPushAppendsOrDrops := by
  refine ⟨fun a => decode_encode_toInstr (.bufPush a), fun a s hroom => ?_, fun a s hfull => ?_,
    fun w hop => rejectedWord_of_field_ne ?_⟩
  · refine ⟨s.block.buf.set s.block.count.toNat a, ?_, toNat_count_succ hroom, fun i hi => ?_⟩
    · rw [← Block.bufPush_of_room a hroom]
      exact exec_toInstr (.bufPush a) s
    · rw [Vector.getElem_set]
      exact if_congr eq_comm rfl rfl
  · rw [← Block.bufPush_of_full a hfull]
    exact exec_toInstr (.bufPush a) s
  · rw [fieldOp, hop]
    decide

/-! ### PARSE as a verdict and what it latches -/

/-- R133 to R136, R142: the result of PARSE, from COUNT and BUF alone; `Block.parse_eq_latch` says that it
is the model's. -/
def parseVerdict (count : BitVec 4) (f : Vector Byte 15) : ParseResult :=
  if count.toNat < 15 then .frameTooShort
  else if f[0] ≠ 0x0A then .badStartByte
  else if frameCrc f ≠ receivedCrc f then .checksumMismatch
  else .ok

section
variable {n : BitVec 4} {f : Vector Byte 15}

theorem parseVerdict_of_lt (hn : n.toNat < 15) : parseVerdict n f = .frameTooShort := if_pos hn

theorem parseVerdict_of_start_ne (hn : n.toNat = 15) (hstart : f[0] ≠ 0x0A) :
    parseVerdict n f = .badStartByte := by
  rw [parseVerdict, if_neg (by omega), if_pos hstart]

/-- R136: with the start byte in place, a frame that is not accepted fails by its checksum. -/
theorem parseVerdict_of_not_accepted (hn : n.toNat = 15) (hstart : f[0] = 0x0A) (hbad : ¬acceptedFrame f) :
    parseVerdict n f = .checksumMismatch := by
  have hcrc : frameCrc f ≠ receivedCrc f := fun h => hbad ⟨hstart, h⟩
  rw [parseVerdict, if_neg (by omega), if_neg (not_not.mpr hstart), if_pos hcrc]

theorem parseVerdict_of_accepted (hn : n.toNat = 15) (hframe : acceptedFrame f) :
    parseVerdict n f = .ok := by
  obtain ⟨hstart, hcrc⟩ := hframe
  have hcrc : frameCrc f = receivedCrc f := hcrc
  rw [parseVerdict, if_neg (by omega), if_neg (not_not.mpr hstart), if_neg (not_not.mpr hcrc)]

/-- R134, R136: exactly a full buffer that holds an accepted frame gives OK. -/
theorem parseVerdict_eq_ok_iff : parseVerdict n f = .ok ↔ n.toNat = 15 ∧ acceptedFrame f := by
  refine ⟨fun hok => ?_, fun ⟨hn, hframe⟩ => parseVerdict_of_accepted hn hframe⟩
  by_contra hnot
  obtain hn | hn : n.toNat < 15 ∨ n.toNat = 15 := by omega
  · simp [parseVerdict_of_lt hn] at hok
  · by_cases hstart : f[0] = 0x0A
    · simp [parseVerdict_of_not_accepted hn hstart fun hframe => hnot ⟨hn, hframe⟩] at hok
    · simp [parseVerdict_of_start_ne hn hstart] at hok

end

/-- R137: what PARSE writes of the buffer `f` with the result `r`: the checksums where it compared them, the
sample fields where it accepted. -/
def Block.latch (r : ParseResult) (f : Vector Byte 15) (b : Block) : Block :=
  match r with
  | .none | .frameTooShort | .badStartByte => { b with pres := r }
  | .checksumMismatch => { b with calcCrc := frameCrc f, recvCrc := receivedCrc f, pres := r }
  | .ok => { b with calcCrc := frameCrc f, recvCrc := receivedCrc f, sample := extractSample f, pres := r }

@[simp] theorem Block.latch_pres (r : ParseResult) (f : Vector Byte 15) (b : Block) :
    (b.latch r f).pres = r := by
  cases r <;> rfl

@[simp] theorem Block.latch_sample_ok (f : Vector Byte 15) (b : Block) :
    (b.latch .ok f).sample = extractSample f := rfl

/-- R26: where the checksums were compared, both are latched. -/
theorem Block.latch_checksums {r : ParseResult} (h : r = .ok ∨ r = .checksumMismatch) (f : Vector Byte 15)
    (b : Block) : (b.latch r f).calcCrc = frameCrc f ∧ (b.latch r f).recvCrc = receivedCrc f := by
  rcases h with rfl | rfl <;> exact ⟨rfl, rfl⟩

/-- R137: PARSE does not write the buffer. -/
theorem Block.latch_with_buf (r : ParseResult) (f g : Vector Byte 15) (b : Block) :
    { b with buf := g }.latch r f = { b.latch r f with buf := g } := by
  cases r <;> rfl

/-- R133: the four results of PARSE. -/
theorem Block.parse_eq_latch (b : Block) : b.parse = b.latch (parseVerdict b.count b.buf) b.buf := by
  rcases b.parse_cases with ⟨hn, he⟩ | ⟨hn, hs, he⟩ | ⟨hn, hs, hcrc, he⟩ | ⟨hn, hs, hcrc, he⟩
  · rw [he, parseVerdict_of_lt hn]; rfl
  · rw [he, parseVerdict_of_start_ne hn hs]; rfl
  · rw [he, parseVerdict_of_not_accepted hn hs fun ⟨_, h⟩ => hcrc h]; rfl
  · rw [he, parseVerdict_of_accepted hn ⟨hs, hcrc⟩]; rfl

/-- R133: PARSE completes in every state, with its verdict on the buffer. -/
theorem exec_parse (s : State) : exec .parse s =
    .next (s.finish none (s.block.latch (parseVerdict s.block.count s.block.buf) s.block.buf)) := by
  rw [← Block.parse_eq_latch]
  exact exec_toInstr .parse s

/-- R133: PARSE on a full buffer that holds an accepted frame. -/
theorem exec_parse_of_accepted {s : State} (hn : s.block.count = 15) (hframe : acceptedFrame s.block.buf) :
    exec .parse s = .next (s.finish none (s.block.latch .ok s.block.buf)) := by
  rw [exec_parse, parseVerdict_of_accepted (by rw [hn]; rfl) hframe]

/-- Settles O18: the equation is `Block.parse` with the constants of R8 put in; then the words of OP = 6, and
the example frame as an accepted one. -/
theorem parseValidatesAndLatches : Obligations.ParseValidatesAndLatches := by
  refine ⟨decode_encode_toInstr .parse, exec_toInstr .parse, rfl, rfl, rfl, rfl, fun w hop hne => ?_,
    fun s t hcount hbuf hexec => ?_⟩
  · refine rejectedWord_of_op fun c hc => ?_
    rw [eq_parse_of_op_eq (hc.trans hop)]
    exact hne
  · have hframe : acceptedFrame s.block.buf := by
      rw [hbuf]
      exact ⟨rfl, by decide +kernel⟩
    cases (exec_parse_of_accepted hcount hframe).symm.trans hexec
    simp only [State.finish_block, Block.latch, hbuf]
    decide +kernel

/-- Settles O19: equal buffers have one verdict, and `Block.latch` writes values of the buffer only. -/
theorem parseDependsOnTheBufferAlone : Obligations.ParseDependsOnTheBufferAlone := by
  intro s s' hcount hbuf
  refine ⟨_, _, exec_parse s, exec_parse s', ?_⟩
  simp only [State.finish_block, Block.latch_pres, hcount, hbuf, true_and]
  generalize parseVerdict s'.block.count s'.block.buf = r
  refine ⟨fun hr => ?_, fun hr => ?_⟩
  · obtain ⟨hcalc, hrecv⟩ := Block.latch_checksums hr s'.block.buf s.block
    obtain ⟨hcalc', hrecv'⟩ := Block.latch_checksums hr s'.block.buf s'.block
    exact ⟨hcalc.trans hcalc'.symm, hrecv.trans hrecv'.symm⟩
  · rw [hr, Block.latch_sample_ok, Block.latch_sample_ok]

/-! ### The bytes that each part of a frame is read from -/

/-- A range does not read a byte outside it. -/
theorem range_set_of_outside (f : Vector Byte 15) (x : Byte) {i first len : Nat} (hi : i < 15)
    (hout : i < first ∨ first + len ≤ i) :
    range (f.set i x).toList first len = range f.toList first len := by
  refine List.ext_getElem (by simp [range]) fun j hj hj' => ?_
  simp only [range, List.length_take, List.length_drop, Vector.length_toList] at hj
  have hne : i ≠ first + j := by omega
  simp [range, hne]

/-- R136: the checksum covers offsets 2 to 12. -/
theorem frameCrc_set_of_outside (f : Vector Byte 15) (x : Byte) {i : Nat} (hi : i < 15)
    (hout : i < 2 ∨ 13 ≤ i) : frameCrc (f.set i x) = frameCrc f :=
  congrArg crc16 (range_set_of_outside f x hi hout)

/-- R82: the length byte is no part of the received checksum. -/
@[simp] theorem receivedCrc_set_length (f : Vector Byte 15) (x : Byte) :
    receivedCrc (f.set 1 x) = receivedCrc f := by
  simp [receivedCrc]

/-- R82: no sample field is read from the length byte. -/
@[simp] theorem extractSample_set_length (f : Vector Byte 15) (x : Byte) :
    extractSample (f.set 1 x) = extractSample f := by
  simp [extractSample]

/-- R139: no check looks at the length byte. -/
theorem parseVerdict_set_length (n : BitVec 4) (f : Vector Byte 15) (x : Byte) :
    parseVerdict n (f.set 1 x) = parseVerdict n f := by
  have hstart : (f.set 1 x)[0] = f[0] := Vector.getElem_set_ne _ _ (by decide)
  have hcrc : frameCrc (f.set 1 x) = frameCrc f := frameCrc_set_of_outside f x _ (by decide)
  rw [parseVerdict, hstart, hcrc, receivedCrc_set_length, parseVerdict]

/-- R139: no value that PARSE latches is read from the length byte. -/
theorem Block.latch_set_length (r : ParseResult) (f : Vector Byte 15) (x : Byte) (b : Block) :
    b.latch r (f.set 1 x) = b.latch r f := by
  simp [Block.latch, frameCrc_set_of_outside]

/-- Settles O20: neither the verdict nor what is latched reads the length byte. -/
theorem parseDoesNotCheckTheLengthByte : Obligations.ParseDoesNotCheckTheLengthByte := by
  intro s t x hexec
  cases (exec_parse s).symm.trans hexec
  rw [exec_parse, parseVerdict_set_length, Block.latch_set_length, Block.latch_with_buf]
  rfl

/-! ### A frame with its own checksum -/

/-- R10: the two bytes of a 16-bit value, put together again. -/
theorem u16_extractLsb' (c : Half) : u16 (c.extractLsb' 8 8) (c.extractLsb' 0 8) = c := by
  refine BitVec.eq_of_getLsbD_eq fun i hi => ?_
  simp only [getLsbD_u16, BitVec.getLsbD_extractLsb']
  grind

/-- A frame with the checksum `c` at offsets 13 and 14. -/
def withChecksum (f : Vector Byte 15) (c : Half) : Vector Byte 15 :=
  (f.set 13 (c.extractLsb' 8 8)).set 14 (c.extractLsb' 0 8)

@[simp] theorem receivedCrc_withChecksum (f : Vector Byte 15) (c : Half) :
    receivedCrc (withChecksum f c) = c := by
  simp [receivedCrc, withChecksum, u16_extractLsb']

@[simp] theorem frameCrc_withChecksum (f : Vector Byte 15) (c : Half) :
    frameCrc (withChecksum f c) = frameCrc f := by
  simp [withChecksum, frameCrc_set_of_outside]

/-- R81: the checksum stands behind the bytes it covers and the fields. -/
@[simp] theorem getElem_withChecksum (f : Vector Byte 15) (c : Half) {i : Nat} (hi : i < 13) :
    (withChecksum f c)[i] = f[i] := by
  simp [withChecksum, Vector.getElem_set_ne, show 13 ≠ i by omega, show 14 ≠ i by omega]

theorem acceptedFrame_withChecksum {f : Vector Byte 15} (hstart : f[0] = 0x0A) :
    acceptedFrame (withChecksum f (frameCrc f)) :=
  ⟨(getElem_withChecksum f _ (by decide)).trans hstart,
    (frameCrc_withChecksum f _).trans (receivedCrc_withChecksum f _).symm⟩

/-- Settles O21: a frame with its own checksum is accepted, and offsets 5 and 6 are not checked. -/
theorem everyDistanceIsAccepted : Obligations.EveryDistanceIsAccepted := by
  rintro d f g s hstart hhi hlo hg hcount hbuf
  have hsum : s.block.buf = withChecksum f (frameCrc f) := hbuf.trans hg
  have hframe : acceptedFrame s.block.buf := hsum ▸ acceptedFrame_withChecksum hstart
  refine ⟨_, exec_parse_of_accepted hcount hframe, rfl, ?_⟩
  calc u16 s.block.buf[5] s.block.buf[6]
      = u16 f[5] f[6] := by simp [hsum]
    _ = d := by rw [hhi, hlo, u16_extractLsb']

/-! ### Single-bit flips -/

/-- Flipping a bit changes the byte. -/
theorem byte_flip_ne (a : Byte) {k : Nat} (hk : k < 8) : a ^^^ (1#8 <<< k) ≠ a := by
  intro h
  have hbit := congrArg (fun x : Byte => x.getLsbD k) h
  simp [hk] at hbit

/-- R113 (c), by the position of the byte in the sequence. -/
theorem crc16_set_flip_ne (d : List Byte) {j k : Nat} (hj : j < d.length) (hk : k < 8) :
    crc16 (d.set j (d[j] ^^^ (1#8 <<< k))) ≠ crc16 d := by
  have hsplit (x : Byte) : d.set j x = d.take j ++ x :: d.drop (j + 1) :=
    List.set_eq_take_append_cons_drop.trans (if_pos hj)
  have hne := crcDetectsEverySingleBitError (d.take j) (d.drop (j + 1)) d[j] k hk
  rwa [← hsplit, ← hsplit, List.set_getElem_self] at hne

/-- R140: of two frames that differ in one bit behind the first two bytes, at most one is accepted. The
bytes from offset 2 on, checksum included, have CRC 0 in an accepted frame. -/
theorem not_acceptedFrame_flip {f : Vector Byte 15} (hf : acceptedFrame f) {i k : Nat} (hi : i < 15)
    (hlow : 2 ≤ i) (hk : k < 8) : ¬acceptedFrame (f.set i (f[i] ^^^ (1#8 <<< k))) := by
  obtain ⟨_, hzero, _⟩ := crcOfDataAndItsCrcIsZero
  intro hg
  refine crc16_set_flip_ne (f.toList.drop 2) (j := i - 2) (by simp; omega) hk ?_
  rw [hzero f hf, ← hzero _ hg, Vector.toList_set, List.drop_set, if_neg (by omega)]
  simp [show 2 + (i - 2) = i by omega]

/-- Settles O22: a flip in the start byte fails its check, one in the length byte is not seen, and one behind
them leaves no accepted frame. -/
theorem singleBitFlipsOfAnAcceptedFrame : Obligations.SingleBitFlipsOfAnAcceptedFrame := by
  intro s t i k hi hk hexec hok
  cases (exec_parse s).symm.trans hexec
  obtain ⟨hfull, hframe⟩ := parseVerdict_eq_ok_iff.mp ((Block.latch_pres ..).symm.trans hok)
  have ⟨hstart, _⟩ := hframe
  refine ⟨_, exec_parse _, ?_⟩
  simp only [State.finish_block, Block.latch_pres]
  split
  · next h0 =>
    subst h0
    refine parseVerdict_of_start_ne hfull ?_
    rw [Vector.getElem_set_self, ← hstart]
    exact byte_flip_ne _ hk
  · next h0 =>
    split
    · next h1 =>
      subst h1
      rw [parseVerdict_set_length, Block.latch_set_length, Block.latch_with_buf]
      exact ⟨parseVerdict_of_accepted hfull hframe, rfl⟩
    · next h1 =>
      refine parseVerdict_of_not_accepted hfull ?_ (not_acceptedFrame_flip hframe hi (by omega) hk)
      rw [Vector.getElem_set_ne _ _ h0, hstart]

end Sys2Proof.Machine

/-! The registers as the host reads and writes them (spec/42_register_access.md): each slot's two rows, what
STATUS and the constants read, and what a write to STATUS or CRC leaves. -/

namespace Sys2Proof

/-! ### The rows of a slot -/

theorem isPerformed_slotDescriptor (dir : Dir) (slot : BitVec 5) :
    isPerformed (descSize (slotDescriptor dir slot)) (descOff (slotDescriptor dir slot)) = true := by
  rw [slotDescriptor, descSize_descriptor, descOff_descriptor]
  revert slot; decide

theorem slot_slotDescriptor (dir : Dir) (slot : BitVec 5) :
    (descOff (slotDescriptor dir slot)).extractLsb' 2 5 = slot := by
  rw [slotDescriptor, descOff_descriptor]
  revert slot; decide

/-- R84, R92: the value that an entry carries has no part in a read. -/
theorem decode_read_slot (slot : BitVec 5) (v : Word) :
    decode (.bus (slotDescriptor .read slot) v) = .ok (readRow slot) := by
  rw [decode, decodeBus_read (isPerformed_slotDescriptor ..) (descDir_descriptor ..), slot_slotDescriptor]

theorem decode_write_slot (slot : BitVec 5) (v : Word) :
    decode (.bus (slotDescriptor .write slot) v) = .ok (writeRow slot v) := by
  rw [decode, decodeBus_write (isPerformed_slotDescriptor ..) (descDir_descriptor ..), slot_slotDescriptor]

/-- The slots whose register satisfies `p`, in the order of their offsets. -/
def slotsWith (p : Register → Bool) : List (BitVec 5) :=
  ((List.range 32).map (BitVec.ofNat 5)).filter fun slot => p (registerAt slot)

theorem of_mem_slotsWith {p : Register → Bool} {slot : BitVec 5} (h : slot ∈ slotsWith p) :
    p (registerAt slot) = true :=
  (List.mem_filter.mp h).2

end Sys2Proof

namespace Sys2Proof.Machine

/-! ### Reads -/

/-- Settles O29: the first four slots, and `COUNT` by its width. -/
theorem readsOfTheControlRegisters : Obligations.ReadsOfTheControlRegisters :=
  ⟨decode_read_slot 0x00, exec_readRow 0x00, decode_read_slot 0x01, exec_readRow 0x01,
    decode_read_slot 0x02, exec_readRow 0x02, decode_read_slot 0x03, exec_readRow 0x03,
    fun s => Nat.le_of_lt_succ s.block.count.isLt, rfl⟩

/-- Settles O31: the slots from 0x08 to 0x0C. -/
theorem readsOfTheResultRegisters : Obligations.ReadsOfTheResultRegisters :=
  ⟨decode_read_slot 0x08, exec_readRow 0x08, decode_read_slot 0x09, exec_readRow 0x09,
    decode_read_slot 0x0A, exec_readRow 0x0A, decode_read_slot 0x0B, exec_readRow 0x0B,
    decode_read_slot 0x0C, exec_readRow 0x0C⟩

/-- R41, R174: the packed words of the command frame. -/
theorem packWord_cmdFrame : packWord Config.cmdFrame 0 = 0x0000240A ∧
    packWord Config.cmdFrame 1 = 0x00000000 ∧ packWord Config.cmdFrame 2 = 0x0000720F := by
  decide

/-- Settles O32: the reads return `packWord_cmdFrame`, and a packed word holds the bytes of its string. -/
theorem readsOfTheCommandFrameConstant : Obligations.ReadsOfTheCommandFrameConstant := by
  obtain ⟨hword0, hword1, hword2⟩ := packWord_cmdFrame
  refine ⟨decode_read_slot 0x10, ?_, decode_read_slot 0x11, ?_, decode_read_slot 0x12, ?_, ?_, rfl⟩
  · rw [← hword0]; exact exec_readRow 0x10
  · rw [← hword1]; exact exec_readRow 0x11
  · rw [← hword2]; exact exec_readRow 0x12
  · rw [← hword0, ← hword1, ← hword2]
    simp only [List.forall_mem_cons, List.not_mem_nil, false_implies, implies_true, and_true]
    exact ⟨extractLsb'_packWord _ 0, extractLsb'_packWord _ 1, extractLsb'_packWord _ 2⟩

/-- R175: the registers that R30 reserves. -/
def isReserved : Register → Bool
  | .reserved _ => true
  | _ => false

theorem Block.readRegister_of_reserved (b : Block) {r : Register} (h : isReserved r = true) :
    b.readRegister r = 0x00000000 := by
  cases r with
  | reserved slot => rfl
  | _ => cases h

theorem exec_readRow_of_reserved {slot : BitVec 5} (h : isReserved (registerAt slot) = true) (s : State) :
    exec (readRow slot) s = .next { s with response := some 0x00000000, index := s.index + 1 } := by
  rw [exec_readRow, performRead, s.block.readRegister_of_reserved h]
  rfl

/-- Settles O33: the list is that of the reserved slots with their read rows. -/
theorem readsOfReservedOffsetsReturnZero : Obligations.ReadsOfReservedOffsetsReturnZero := by
  intro p hp
  obtain ⟨slot, hslot, rfl⟩ :
      ∃ slot ∈ slotsWith isReserved, (slotDescriptor .read slot, readRow slot) = p :=
    List.mem_map.mp hp
  exact ⟨decode_read_slot slot, exec_readRow_of_reserved (of_mem_slotsWith hslot)⟩

/-! ### Writes -/

/-- R167: the registers that ignore a write. -/
def ignoresWrites : Register → Bool
  | .cmd | .status | .crc => false
  | _ => true

theorem Block.writeRegister_of_ignored (b : Block) {r : Register} (h : ignoresWrites r = true) (v : Word) :
    b.writeRegister r v = b := by
  rcases b.writeRegister_cases r v with ⟨rfl, _⟩ | ⟨rfl, _⟩ | ⟨rfl, _⟩ | ⟨_, _, _, hb⟩
  · cases h
  · cases h
  · cases h
  · exact hb

theorem exec_writeRow_of_ignored {slot : BitVec 5} (h : ignoresWrites (registerAt slot) = true) (v : Word)
    (s : State) : exec (writeRow slot v) s = .next { s with response := none, index := s.index + 1 } := by
  rw [exec_writeRow, performWrite, s.block.writeRegister_of_ignored h]
  rfl

/-- Settles O38: the list is that of the slots that ignore writes, with their write rows. -/
theorem writesElsewhereAreIgnored : Obligations.WritesElsewhereAreIgnored := by
  intro p hp
  obtain ⟨slot, hslot, rfl⟩ :
      ∃ slot ∈ slotsWith ignoresWrites, (slotDescriptor .write slot, writeRow slot) = p :=
    List.mem_map.mp hp
  exact ⟨decode_write_slot slot, exec_writeRow_of_ignored (of_mem_slotsWith hslot)⟩

/-! ### STATUS -/

theorem getLsbD_flagBit (flag : Bool) (i : Nat) : (flagBit flag).getLsbD i = (flag && decide (i = 0)) := by
  cases flag <;> simp [flagBit]

/-- R32: the bits of STATUS. -/
theorem Block.getLsbD_status (b : Block) {i : Nat} (hi : i < 32) : b.status.getLsbD i =
    (b.pres.code.getLsbD i || (i == 4 && b.cmdErr) || (i == 5 && b.ovf)) := by
  simp [Block.status, getLsbD_flagBit, BitVec.getLsbD_shiftLeft]
  grind

/-- R163: STATUS keeps all of its bits but the flags that the write names; PRES, of three bits, is below
them. -/
theorem Block.status_clearFlags (b : Block) (v : Word) :
    (b.clearFlags v).status = b.status &&& ~~~(v &&& 0x00000030) := by
  refine BitVec.eq_of_getLsbD_eq fun i hi => ?_
  have hmask : (0x00000030 : Word).getLsbD i = (i == 4 || i == 5) := by
    revert i; decide
  simp only [BitVec.getLsbD_and, BitVec.getLsbD_not, Block.getLsbD_status _ hi, hmask, hi, decide_true,
    Bool.true_and, Block.clearFlags_pres, Block.clearFlags_cmdErr, Block.clearFlags_ovf]
  grind

/-- R163: a 0 leaves its flag unchanged. -/
theorem Block.clearFlags_zero (b : Block) : b.clearFlags 0x00000000 = b := rfl

/-- Settles O36: the write is `Block.clearFlags`. -/
theorem writeStatusClearsStickyFlags : Obligations.WriteStatusClearsStickyFlags := by
  refine ⟨decode_write_slot 0x01, fun v s => ⟨_, exec_writeRow 0x01 v s, rfl,
    s.block.status_clearFlags v, ?_⟩⟩
  rintro rfl
  exact s.block.clearFlags_zero

/-! ### CRC -/

/-- R165: a write to CRC takes the low 16 bits of its value. -/
theorem exec_wrCrc (v : Word) (s : State) :
    exec (.wrCrc v) s = .next (s.finish none { s.block with crc := v.extractLsb' 0 16 }) := by
  rw [← BitVec.setWidth_eq_extractLsb' (by decide)]
  exact exec_writeRow 0x02 v s

/-- R137: PARSE does not write the accumulator. -/
theorem Block.latch_with_crc (r : ParseResult) (f : Vector Byte 15) (b : Block) (c : Half) :
    { b with crc := c }.latch r f = { b.latch r f with crc := c } := by
  cases r <;> rfl

/-- R165: PARSE does not read the accumulator. -/
theorem Block.parse_with_crc (b : Block) (c : Half) :
    { b with crc := c }.parse = { b.parse with crc := c } := by
  rw [Block.parse_eq_latch, Block.latch_with_crc, ← Block.parse_eq_latch b]

/-- R117: a range inside the valid bytes is computed from 0xFFFF. -/
theorem Block.crcRange_of_le {b : Block} {src : CrcSource} {a len : Byte}
    (h : a.toNat + len.toNat ≤ b.sourceLimit src) :
    b.crcRange src a len = { b with crc := crc16 (range (b.source src) a.toNat len.toNat) } :=
  if_neg (Nat.not_lt.mpr h)

/-- R165: a computing CRC_RANGE does not read the accumulator. -/
theorem Block.crcRange_with_crc {b : Block} {src : CrcSource} {a len : Byte} (c : Half)
    (h : a.toNat + len.toNat ≤ b.sourceLimit src) :
    { b with crc := c }.crcRange src a len = b.crcRange src a len := by
  have hlimit : { b with crc := c }.sourceLimit src = b.sourceLimit src := by cases src <;> rfl
  have hsource : { b with crc := c }.source src = b.source src := by cases src <;> rfl
  rw [Block.crcRange_of_le (hlimit ▸ h), Block.crcRange_of_le h, hsource]

/-- Settles O37: what the write leaves, the step of a CRC_BYTE from there, and the two commands that do not
read the accumulator. -/
theorem writeCrcSeedsTheAccumulator : Obligations.WriteCrcSeedsTheAccumulator := by
  refine ⟨decode_write_slot 0x02, exec_wrCrc, fun v a s => ?_, fun c b => b.parse_with_crc c,
    fun c b src a len h => b.crcRange_with_crc c h⟩
  obtain ⟨t, hbyte, hblock⟩ := execAll_crcByte [a]
    (s.finish none { s.block with crc := v.extractLsb' 0 16 })
  refine ⟨t, ?_, by rw [hblock]; rfl⟩
  rw [execAll, exec_wrCrc]
  exact hbyte

/-! ### BusError -/

/-- Settles O40: each of the six rows is `State.raiseBusError` with its own size. -/
theorem busErrorRowsRaiseBusError : Obligations.BusErrorRowsRaiseBusError := by
  intro s dir off
  have hraise (size : AccessSize) : Host.Outcome.next (s.raiseBusError off size dir) =
      (.next { s with response := none, index := s.index + 1, mark := some ⟨off, size, dir⟩ } :
        Host.Outcome State Fault Refusal) := rfl
  simp only [List.forall_mem_cons, List.not_mem_nil, false_implies, implies_true, and_true]
  exact ⟨hraise .one, hraise .two, hraise .eight, hraise .four, hraise .four, hraise .four⟩

end Sys2Proof.Machine

/-! A run that a BusError has marked (spec/60_exceptions.md R196): it answers the fault from then on, and no
instruction takes the mark away. -/

namespace Sys2Proof.Machine

/-! ### The fault of a marked run -/

/-- R196: the mark comes before everything else of the state, a reset event that is due included. -/
theorem step_of_mark {s : State} {f : BusFault} (hmark : s.mark = some f) :
    step s = .fault (.busError f.off f.size f.dir) := by
  rw [step, hmark]

theorem run_succ_of_fault (M : Host.Core) {s : M.State} {r : M.Fault} (k : Nat) (h : M.step s = .fault r) :
    M.run (k + 1) s = .fault r := by
  rw [Host.Core.run, h]

/-- R196: with the mark set no run gets past its first step. -/
theorem run_succ_of_mark {s : State} {f : BusFault} (n : Nat) (hmark : s.mark = some f) :
    Sys2Proof.core.run (n + 1) s = .fault (.busError f.off f.size f.dir) :=
  run_succ_of_fault Sys2Proof.core n (step_of_mark hmark)

theorem mark_eq_none_of_run_succ {n : Nat} {s t : State}
    (hrun : Sys2Proof.core.run (n + 1) s = .next t) : s.mark = none := by
  cases hmark : s.mark with
  | none => rfl
  | some f => cases (run_succ_of_mark n hmark).symm.trans hrun

/-! ### The mark across an instruction -/

/-- R176, R196: a performed transaction leaves the mark alone, and a BusError sets it. -/
theorem exec_mark_cases {i : Instr} {s t : State} (h : exec i s = .next t) :
    t.mark = s.mark ∨ ∃ f, t.mark = some f := by
  rcases exec_cases i with ⟨r, _, he⟩ | ⟨effect, _, he⟩ | ⟨off, size, dir, _, he⟩ <;>
    rw [he] at h <;> cases h
  · exact .inl (s.finish_mark _ _)
  · exact .inl (s.finish_mark _ _)
  · exact .inr ⟨_, s.raiseBusError_mark off size dir⟩

theorem exec_keeps_mark {i : Instr} {s t : State} (h : exec i s = .next t) (hmark : s.mark ≠ none) :
    t.mark ≠ none := by
  rcases exec_mark_cases h with hsame | ⟨f, hset⟩
  · rwa [hsame]
  · simp [hset]

/-- Settles O41: the fault of a marked state, the mark kept by every instruction, and both seen from a run
that gets past its first step. -/
theorem busErrorIsFinal : Obligations.BusErrorIsFinal :=
  ⟨fun _ _ => step_of_mark, fun _ _ _ => exec_keeps_mark, fun _ _ _ => mark_eq_none_of_run_succ⟩

end Sys2Proof.Machine

/-! Reset (spec/70_reset_and_hazards.md R220): the values it gives the block, what every register then reads,
and the reset event as a step of its own between two transactions. -/

namespace Sys2Proof.Machine

/-! ### The values after a reset -/

/-- R220: the reset buffer written out, fifteen zero bytes. -/
theorem Block.reset_buf_eq : Block.reset.buf = #v[0, 0, 0, 0, 0, 0, 0, 0, 0, 0, 0, 0, 0, 0, 0] := rfl

/-- R32, R220: with PRES at NONE and both sticky flags off, no bit of STATUS is set. -/
theorem Block.reset_status : Block.reset.status = 0x00000000 := rfl

/-- R220: the registers that a reset brings to 0. The words of the buffer are packed from its bytes; each of
the others is packed from fields whose reset value is 0. -/
theorem Block.reset_readRegister_eq_zero {r : Register}
    (hr : r ∈ [Register.status, .count, .buf0, .buf1, .buf2, .buf3, .dist, .mag, .ambient, .precision,
      .frameCrc]) : Block.reset.readRegister r = 0x00000000 := by
  revert r
  simp only [List.forall_mem_cons, List.not_mem_nil, false_implies, implies_true, and_true]
  exact ⟨Block.reset_status, rfl,
    Block.reset_packWord_buf 0, Block.reset_packWord_buf 1, Block.reset_packWord_buf 2,
    Block.reset_packWord_buf 3,
    rfl, rfl, rfl, rfl, rfl⟩

/-- Settles O1: the values of R220 field by field, the reset event on any state, and the registers from
them. The command frame is a constant, so its words are those of `packWord_cmdFrame`. -/
theorem resetGivesEveryElementItsValue : Obligations.ResetGivesEveryElementItsValue := by
  refine ⟨?values, State.applyReset_block, rfl, fun _ => Block.reset_readRegister_eq_zero, packWord_cmdFrame⟩
  case values => rw [← Block.reset_buf_eq]; rfl

/-! ### The reset event -/

/-- R220: a reset is due when the first of those still to come names the transaction at the index. -/
theorem State.resetDue_iff (s : State) : s.resetDue = true ↔ ∃ rest, s.resets = s.index :: rest := by
  simp [State.resetDue, List.head?_eq_some_iff]

/-- R220: in an unmarked run, a reset that is due is the whole of the step. -/
theorem step_of_resetDue {s : State} (hmark : s.mark = none) (hdue : s.resetDue = true) :
    step s = .next s.applyReset := by
  rw [step, hmark]
  exact if_pos hdue

/-- R21, R220: the reset event reaches the block and spends itself; nothing else of the runner changes. -/
theorem State.applyReset_of_resets {s : State} {n : Nat} {rest : List Nat} (h : s.resets = n :: rest) :
    s.applyReset = { s with block := State.reset.block, resets := rest } := by
  rw [State.applyReset, h]
  rfl

/-- Settles O2: the reset is due, so the step is the reset event, which takes the first of the list. -/
theorem resetEventComesBetweenTransactions : Obligations.ResetEventComesBetweenTransactions := by
  intro s rest hmark hresets
  have hdue : s.resetDue = true := s.resetDue_iff.mpr ⟨rest, hresets⟩
  rw [step_of_resetDue hmark hdue, State.applyReset_of_resets hresets]

end Sys2Proof.Machine
